-- ==== Sys2Proof/Word.lean ====
section
/-! DEFINITION. The words of the part: a byte of the head-end line, and the bit string of a burst body
as it stands on a cable (first bit sent first). -/

namespace Sys2Proof

/-- One character of the head-end line without its start and stop bits (R165, R176). -/
abbrev Byte := BitVec 8

/-- A string of bits on a cable, in the order sent (R63). -/
abbrev Bits := List Bool

end Sys2Proof
end

