-- ==== Sys2Proof/Syntax.lean ====
section
/-! DEFINITION. The commands of the part: one constructor for each row of spec/opcode_table.json, with the
operands the outside world (or the passing of time) gives it. -/

namespace Sys2Proof

/-- The two line ports. -/
inductive LineId where
  | A | B
  deriving DecidableEq, Repr

/-- One character as received on HRXD: its eight data bits, and whether a stop bit stood where one belongs (R166). -/
structure RxChar where
  byte   : Byte
  stopOk : Bool := true
  deriving DecidableEq, Repr

/-- The commands. The first 26 TAKE a request: the frame taken is the oldest complete frame of the input
buffer (R168), so its tag and payload are in the state and the command has no operand. The others are the
link, pin, timer and air events; each names its line, and the ones that report a measurement carry it. -/
inductive Instr where
  /-- IDENT, request kind 0x01 (R173). -/
  | ident
  /-- STATUS, request kind 0x02 (R174). -/
  | status
  /-- LINE_CONFIG, request kind 0x03 (R23). -/
  | lineConfig
  /-- LINE_START, request kind 0x04 (R24). -/
  | lineStart
  /-- LINE_STOP, request kind 0x05 (R25). -/
  | lineStop
  /-- PLAN_STAGE, request kind 0x06 (R30). -/
  | planStage
  /-- WAY_CONFIG, request kind 0x07 (R119). -/
  | wayConfig
  /-- ZONE_WRITE, request kind 0x08 (R120). -/
  | zoneWrite
  /-- ZONE_READ, request kind 0x09 (R121). -/
  | zoneRead
  /-- GATE_CONFIG, request kind 0x0A (R137). -/
  | gateConfig
  /-- GATE_OPEN, request kind 0x0B (R143). -/
  | gateOpen
  /-- GATE_READ, request kind 0x0C (R144). -/
  | gateRead
  /-- CAR_CAP, request kind 0x0D (R132). -/
  | carCap
  /-- CAR_TEXT, request kind 0x0E (R46). -/
  | carText
  /-- CAR_DROP, request kind 0x0F (R16). -/
  | carDrop
  /-- CAR_READ, request kind 0x10 (R19). -/
  | carRead
  /-- WAY_ORDER, request kind 0x11 (R118). -/
  | wayOrder
  /-- ADMISSION, request kind 0x12 (R78). -/
  | admission
  /-- ADMIT, request kind 0x13 (R76). -/
  | admitUnit
  /-- REFUSE, request kind 0x14 (R77). -/
  | refuse
  /-- ALL_STOP with action STOP, request kind 0x15 (R158). -/
  | allStopStop
  /-- ALL_STOP with action MODE, request kind 0x15 (R158). -/
  | allStopMode
  /-- RESUME, request kind 0x16 (R162). -/
  | resume
  /-- NOTICE_MASK, request kind 0x17 (R171). -/
  | noticeMask
  /-- RESTART, request kind 0x18 (R175). -/
  | restart
  /-- A complete frame whose kind is no request kind is taken (R168, check 1). -/
  | unknownKindFrame
  /-- The characters `chars` arrive on HRXD; with the last of them a frame is complete (R166). -/
  | frameComplete (chars : List RxChar)
  /-- The characters `chars` arrive on HRXD; with the last of them a frame is rejected (R166). -/
  | frameRejected (chars : List RxChar)
  /-- The part begins to send the oldest waiting frame on HTXD (R169). -/
  | frameSendStart
  /-- The last byte of the frame on HTXD has gone out (R169). -/
  | frameSendEnd
  /-- Power-up or RSTN, with the levels of the straps BAUD1 and BAUD0 (R176). -/
  | coldReset (baud1 baud0 : Bool)
  /-- The ESTOP input changes from released to asserted (R158). -/
  | estopAssert
  /-- The ESTOP input changes from asserted to released (R158). -/
  | estopRelease
  /-- The front-end fault input of a line becomes set (R26). -/
  | faultInputSet (line : LineId)
  /-- The front-end fault input of a line becomes clear (R26). -/
  | faultInputClear (line : LineId)
  /-- The front end of a line reports the level, 0 to 63, of a received burst (R87). -/
  | levelReport (line : LineId) (level : BitVec 6)
  /-- The cycle timer of a line expires (R31). -/
  | cycleEnd (line : LineId)
  /-- The slot timer of a line expires and a poll slot begins (R34). -/
  | pollSlotStart (line : LineId)
  /-- The last bit of the POLL burst leaves the engine (R54, R98). -/
  | pollBurstComplete (line : LineId)
  /-- A leading edge is received in a poll slot when the capture counter has counted `ticks` (R99). -/
  | replyEdgeCapture (line : LineId) (ticks : Nat)
  /-- The capture counter reaches the window end (R35). -/
  | replyWindowEnd (line : LineId)
  /-- The trailing edge of the measured burst: its width in ticks, and its body and check bits as received (R99). -/
  | burstTrailingEdge (line : LineId) (width : Nat) (bits : Bits)
  /-- The slot timer of a line expires at the end of a poll slot. `width` and `bits` are what the width counter
  and the receiver hold then, and are read only when the captured burst is still in progress (R36). -/
  | pollSlotEnd (line : LineId) (width : Nat) (bits : Bits)
  /-- The slot timer of a line expires and a command slot begins (R37). -/
  | commandSlotStart (line : LineId)
  /-- The burst that carries a drive word completes (R53): a COMMAND, or a POLL with a piggy-backed word. -/
  | driveWordSent (line : LineId)
  /-- The COMMAND burst that carries a text fragment completes (R52). -/
  | textFragmentSent (line : LineId)
  /-- The COMMAND burst that carries an ASSIGN completes (R55). -/
  | assignSent (line : LineId)
  /-- The slot timer of a line expires and a join slot begins (R38). -/
  | joinSlotStart (line : LineId)
  /-- A leading edge is received in a join slot (R38). -/
  | joinEdge (line : LineId)
  /-- The slot timer of a line expires at the end of a join slot; `width` and `bits` as for `pollSlotEnd` (R38). -/
  | joinSlotEnd (line : LineId) (width : Nat) (bits : Bits)
  /-- The last bit of the MARK burst goes out (R33, R156). -/
  | markBurstComplete (line : LineId)
  deriving DecidableEq, Repr

end Sys2Proof
end

