-- ==== Sys2Proof/Decode.lean ====
section
/-! DEFINITION. The command that a word spells. No row of spec/opcode_table.json gives bits (every "fields" is
empty and there is no "fixed"), so no word spells a command. The bit layouts the manual does give, the frames of
the head-end line and the bursts, are operands of commands and are read in Machine/Operands.lean. -/

namespace Sys2Proof

/-- The command spelt by the low `nbits` bits of `w`: none, since no row of the table gives bits. -/
def decodeTableWord (_nbits _w : Nat) : Option Instr := none

end Sys2Proof
end

