-- ==== Sys2Proof/Config.lean ====
section
/-! DEFINITION. The fixed constants and capacities of the part (00_scope.md, "Fixed constants" and
"Device summary"), and the one free value: the order of effects that the manual leaves open. -/

namespace Sys2Proof.Config

/-- Car reply latency, end of poll to start of reply, in ticks. -/
abbrev replyLatency : Nat := 6000
/-- Ticks after which the 13-bit capture count returns to 0. -/
abbrev captureSpan : Nat := 8192
/-- The effective count at which the capture counter stops (R98). -/
abbrev captureStop : Nat := 32767
/-- The count at which the width counter stops (R99). -/
abbrev widthStop : Nat := 16383
/-- Expected width of a short REPLY, a full REPLY and a JOIN, in ticks (R70). -/
abbrev shortWidth : Nat := 1800
abbrev fullWidth : Nat := 3000
abbrev joinWidth : Nat := 1500
/-- The greatest uncertainty, in dm. -/
abbrev maxUncertainty : Nat := 100000
/-- The rounded propagation constant, per 10^6 (R106). -/
abbrev tickConstant : Nat := 14990
/-- Ticks of the ranging clock in one unit (0.1 ms) of slot length. -/
abbrev ticksPerSlotUnit : Nat := 10000
/-- Head-end entry pool, ask list, ASSIGN places, notice outbox and input buffer (R42, R60, R74, R167, R172). -/
abbrev poolSize : Nat := 40
abbrev askPlaces : Nat := 4
abbrev assignPlaces : Nat := 4
abbrev outboxSize : Nat := 32
abbrev inputBufferBytes : Nat := 512
/-- The receive gain step driven when no car is polled (R86). -/
abbrev restingGain : Nat := 8

/-- The free value behind every order that the manual leaves open (DESIGN CHOICE, log 4): the `n`-th choice the part makes. It has no body, so
nothing can be proved of it. -/
opaque openChoice : Nat → Nat

end Sys2Proof.Config
end

