-- ==== Sys2Proof/Machine/State.lean ====
section
/-! DEFINITION. What the part holds: one structure for each block, the whole state, and the state after a cold
reset. All of it is plain data. Views that the manual names but that other fields already fix (the way order, the
text seats, the pool count, the swap flag, the output pins) are functions over this state, in the files of
Sys2Proof/Machine. -/

namespace Sys2Proof.Machine

/-! ## Named values (00_scope.md) -/

/-- A roster slot, 0 to 47. Its air address is its number plus 1 (R1). -/
abbrev CarIx := Fin 48

inductive LineState where
  | off | run | quiet | fault
  deriving DecidableEq, Repr

inductive CarState where
  | free | joining | heard | missing | lost
  deriving DecidableEq, Repr

inductive Home where
  | a | b | both
  deriving DecidableEq, Repr

inductive Direction where
  | neg | pos | still
  deriving DecidableEq, Repr

inductive WindowMode where
  | wide | narrow
  deriving DecidableEq, Repr

/-- Doze levels; a later one is deeper. -/
inductive Doze where
  | awake | light | deep | parked
  deriving DecidableEq, Repr

inductive CarFaults where
  | none | brake | traction | both
  deriving DecidableEq, Repr

inductive Admission where
  | opened | closed
  deriving DecidableEq, Repr

inductive HaltMode where
  | immediate | slotBound
  deriving DecidableEq, Repr

inductive Placement where
  | head | tail
  deriving DecidableEq, Repr

/-- Progress of a car's release after RESUME (R163). -/
inductive Release where
  | none | owed | sent
  deriving DecidableEq, Repr

/-! ## Car roster (R1) -/

/-- A position along the way and the line that produced it; the two are present together. -/
structure Position where
  dm   : Int
  line : LineId
  deriving DecidableEq, Repr

/-- Receive state kept in the record while the car holds no context on a line. -/
structure Parked where
  centre : Nat
  gain   : Nat
  deriving DecidableEq, Repr

/-- A text fully sent and not yet acknowledged. Its characters and level are what its pool entry keeps (R52);
`stamp` is its place in the car's text order (R47). -/
structure TextAwait where
  seq    : Nat
  waited : Nat
  budget : Nat
  level  : Fin 8
  chars  : List Byte
  stamp  : Nat
  deriving DecidableEq, Repr

/-- One car record, with the per-slot state of the way tracker (`heardMark`, `touch`) and of the halt block
(`release`). -/
structure Car where
  state          : CarState
  unitId         : Nat
  joinLine       : LineId
  home           : Home
  position       : Option Position
  uncertainty    : Nat
  direction      : Direction
  speed          : Nat
  requestedDoze  : Doze
  grantedDoze    : Doze
  lightRun       : Nat
  listening      : Bool
  countdown      : Nat
  missCount      : Nat
  clashCount     : Nat
  pollsSinceFull : Nat
  headCap        : Nat
  zoneCap        : Nat
  gapCap         : Option Nat
  effectiveCap   : Nat
  driveSeqSent   : Nat
  capSent        : Nat
  confirmedCap   : Nat
  textSeq        : Nat
  textAwait      : Option TextAwait
  parkedA        : Option Parked
  parkedB        : Option Parked
  battery        : Option Nat
  odometer       : Option Nat
  carFaults      : Option CarFaults
  /-- heard since the last cycle end of the counting line (R111) -/
  heardMark      : Bool
  /-- the zones touched at the last zone evaluation, ascending (R123) -/
  touch          : List (Fin 16)
  release        : Release
  deriving DecidableEq, Repr

/-- The values a record takes at admission for unit `unit` on line `line` (R2). -/
def Car.admitted (unit : Nat) (line : LineId) : Car where
  state          := .joining
  unitId         := unit
  joinLine       := line
  home           := match line with | .A => .a | .B => .b
  position       := none
  uncertainty    := Config.maxUncertainty
  direction      := .still
  speed          := 0
  requestedDoze  := .awake
  grantedDoze    := .awake
  lightRun       := 0
  listening      := false
  countdown      := 0
  missCount      := 0
  clashCount     := 0
  pollsSinceFull := 0
  headCap        := 255
  zoneCap        := 255
  gapCap         := none
  effectiveCap   := 255
  driveSeqSent   := 0
  capSent        := 0
  confirmedCap   := 0
  textSeq        := 0
  textAwait      := none
  parkedA        := none
  parkedB        := none
  battery        := none
  odometer       := none
  carFaults      := none
  heardMark      := false
  touch          := []
  release        := .none

/-- A FREE record. DESIGN CHOICE (log 9): its fields have no meaning (R1, R20); unit id 0 and line A stand in them. -/
def Car.free : Car := { Car.admitted 0 .A with state := .free }

/-! ## Traffic queue (R41) -/

/-- A TEXT entry. Its fragment count is a function of its characters (`Text.fragments`). -/
structure Text where
  level  : Fin 8
  chars  : List Byte
  /-- next fragment index -/
  next   : Nat
  /-- retry budget -/
  budget : Nat
  seq    : Nat
  /-- seated engine -/
  seat   : Option LineId
  /-- place in the car's text order (R47): the smaller the older; a held TEXT has no place and carries 0 -/
  stamp  : Nat
  deriving DecidableEq, Repr

inductive AssignOutcome where
  | room (address : Nat)
  | full
  deriving DecidableEq, Repr

structure Assign where
  unitId  : Nat
  line    : LineId
  outcome : AssignOutcome
  deriving DecidableEq, Repr

inductive Job where
  | poll (car : CarIx)
  | drive (car : CarIx)
  | text (car : CarIx) (t : Text)
  | assign (a : Assign)
  deriving DecidableEq, Repr

/-- An entry of the traffic queue and the engine that has engaged it (R41). -/
structure Entry where
  job     : Job
  engaged : Option LineId
  deriving DecidableEq, Repr

/-! ## Link contexts (R81) -/

structure Ctx where
  owner        : Option CarIx
  mode         : WindowMode
  centre       : Nat
  gain         : Nat
  history      : List Nat
  narrowMisses : Nat
  dirty        : Bool
  stamp        : Nat
  deriving DecidableEq, Repr

/-- The free values of R81. -/
def Ctx.free : Ctx where
  owner        := none
  mode         := .wide
  centre       := 0
  gain         := Config.restingGain
  history      := []
  narrowMisses := 0
  dirty        := false
  stamp        := 0

/-! ## Line engines (R22) and ranging units (R98) -/

structure LineParams where
  length     : Nat
  vf         : Nat
  latency    : Nat
  halfWidth  : Nat
  guardTicks : Nat
  widthTol   : Nat
  rangeTol   : Nat
  shift      : Nat
  vmax       : Nat
  lostLimit  : Nat
  cadence    : Nat
  quietLimit : Nat
  deepDelay  : Nat
  deriving DecidableEq, Repr

/-- The defaults of the line parameters (R22). -/
def LineParams.default : LineParams where
  length     := 30000
  vf         := 880
  latency    := 0
  halfWidth  := 300
  guardTicks := 128
  widthTol   := 120
  rangeTol   := 20
  shift      := 2
  vmax       := 80
  lostLimit  := 8
  cadence    := 16
  quietLimit := 32
  deepDelay  := 3

/-- Poll, command and join slot counts, and the slot length in 0.1 ms (R29). -/
structure Plan where
  polls    : Nat
  commands : Nat
  joins    : Nat
  slotLen  : Nat
  deriving DecidableEq, Repr

/-- The default plan (R22). -/
def Plan.default : Plan := { polls := 12, commands := 6, joins := 2, slotLen := 40 }

/-- The slot in progress: poll, command and join slots are numbered from 1. -/
inductive AirSlot where
  | none
  | mark
  | poll (k : Nat)
  | command (k : Nat)
  | join (k : Nat)
  deriving DecidableEq, Repr

/-- The fields of a drive word (R67). -/
structure DriveWord where
  cap     : Nat
  seq     : Nat
  grant   : Doze
  release : Bool
  deriving DecidableEq, Repr

/-- What a burst of the engine is. The entry it was built from is the one its engine has engaged. -/
inductive BurstKind where
  | mark
  | poll (word : Option DriveWord)
  | drive (word : DriveWord)
  | text
  | assign
  deriving DecidableEq, Repr

/-- The burst in progress on the transmit data pin: what it is, and its body and check bits (R63). -/
structure Burst where
  kind : BurstKind
  bits : Bits
  deriving DecidableEq, Repr

/-- What became of the polled car while its slot was in progress: it was dropped or lapsed (R18), or re-admitted by
a join on the other line (R94). -/
inductive PollFate where
  | served | gone | rejoined
  deriving DecidableEq, Repr

/-- A poll slot that sent a poll (R34, R35). -/
structure PollSlot where
  car         : CarIx
  grant       : Doze
  full        : Bool
  windowStart : Nat
  windowEnd   : Nat
  windowOpen  : Bool
  gain        : Nat
  fate        : PollFate
  deriving DecidableEq, Repr

/-- A ranging unit (R98): the capture counter and whether it runs, the width counter and whether it runs, and what
the poll slot in progress has captured. -/
structure Ranging where
  running      : Bool
  count        : Nat
  overflow     : Nat
  widthRunning : Bool
  width        : Nat
  /-- captured count and captured overflow count -/
  captured     : Option (Nat × Nat)
  /-- body and check bits of the captured burst, once its trailing edge has been seen -/
  body         : Option Bits
  level        : Option Nat
  deriving DecidableEq, Repr

/-- The idle ranging unit, all counters at 0 (R98). -/
def Ranging.idle : Ranging where
  running      := false
  count        := 0
  overflow     := 0
  widthRunning := false
  width        := 0
  captured     := none
  body         := none
  level        := none

/-- The first burst of a join slot: its width so far, and its bits once its trailing edge has been seen (R38). -/
structure JoinRx where
  width : Nat
  bits  : Option Bits
  deriving DecidableEq, Repr

/-- One line: its engine, its ranging unit, its context set, its fault input and its share of the halt block. -/
structure Engine where
  state          : LineState
  params         : LineParams
  plan           : Plan
  /-- the staged plan; the swap flag is set exactly when there is one -/
  staged         : Option Plan
  cycle          : Nat
  slot           : AirSlot
  /-- the poll or join slot in `slot` has ended and the next slot has not begun (the model's, log 24) -/
  slotOver       : Bool
  joinOpen       : Bool
  /-- the join slot in progress listens (R38, R160) -/
  listening      : Bool
  idle           : Nat
  /-- the cycle in progress has done something that keeps it from being idle (R40) -/
  traffic        : Bool
  breakPending   : Bool
  restartPending : Bool
  /-- level of the front-end fault input -/
  faultIn        : Bool
  burst          : Option Burst
  poll           : Option PollSlot
  ranging        : Ranging
  joinRx         : Option JoinRx
  /-- ticks left on the cycle timer and on the slot timer (R31) -/
  cycleTimer     : Nat
  slotTimer      : Nat
  ctx            : Vector Ctx 6
  deriving DecidableEq, Repr

/-- A line after cold reset (R22), its fault input at `faultIn`. -/
def Engine.cold (faultIn : Bool) : Engine where
  state          := .off
  params         := LineParams.default
  plan           := Plan.default
  staged         := none
  cycle          := 0
  slot           := .none
  slotOver       := false
  joinOpen       := false
  listening      := false
  idle           := 0
  traffic        := false
  breakPending   := false
  restartPending := false
  faultIn        := faultIn
  burst          := none
  poll           := none
  ranging        := Ranging.idle
  joinRx         := none
  cycleTimer     := 0
  slotTimer      := 0
  ctx            := Vector.replicate 6 Ctx.free

/-! ## Way tracker (R119, R120) -/

structure WayParams where
  braking    : Nat
  reaction   : Nat
  margin     : Nat
  carLength  : Nat
  hysteresis : Nat
  radius     : Nat
  motion     : Nat
  askTimeout : Nat
  deriving DecidableEq, Repr

/-- The defaults of the way parameters (R119). -/
def WayParams.default : WayParams where
  braking    := 50
  reaction   := 15
  margin     := 50
  carLength  := 80
  hysteresis := 4
  radius     := 300
  motion     := 2
  askTimeout := 20

structure Zone where
  lo      : Int
  hi      : Int
  cap     : Nat
  enabled : Bool
  deriving DecidableEq, Repr

/-- A zone after cold reset (R120). -/
def Zone.cold : Zone := { lo := 0, hi := 1, cap := 254, enabled := false }

/-! ## Gates (R136) -/

inductive Source where
  | none
  | cycleEnd (line : LineId)
  | carHeard (car : CarIx)
  | carInZone (car : CarIx) (zone : Fin 16)
  | carStill (car : CarIx)
  | haltEnd
  deriving DecidableEq, Repr

inductive Held where
  | text (car : CarIx) (t : Text)
  | cap (car : CarIx) (code : Nat)
  deriving DecidableEq, Repr

structure Gate where
  source    : Source
  credit    : Nat
  banking   : Bool
  placement : Placement
  hold      : List Held
  deriving DecidableEq, Repr

/-- A gate after cold reset (R136). -/
def Gate.cold : Gate := { source := .none, credit := 0, banking := false, placement := .tail, hold := [] }

/-! ## Joining (R72 to R78) -/

structure Ask where
  unitId     : Nat
  line       : LineId
  cyclesLeft : Nat
  deriving DecidableEq, Repr

/-! ## Halt latch (R158) -/

structure Halt where
  latch   : Bool
  pin     : Bool
  request : Bool
  mode    : HaltMode
  /-- level of the ESTOP input, true while asserted -/
  estop   : Bool
  deriving DecidableEq, Repr

/-! ## Head-end link (R165 to R176) -/

inductive JoinOutcome where
  | admitted | refused | full | lapsed | timedOut
  deriving DecidableEq, Repr

inductive LostCause where
  | misses | lineDown
  deriving DecidableEq, Repr

inductive CapChangeKind where
  | appeared | zero | cleared
  deriving DecidableEq, Repr

inductive TextOutcome where
  | delivered | failed | cancelled
  deriving DecidableEq, Repr

/-- The causes a STARTED or HALT notice carries (R170). -/
inductive Causes where
  | pin | request | both | none
  deriving DecidableEq, Repr

/-- The notices of R170 with their payloads. -/
inductive Notice where
  | started (warm : Bool) (rate : Nat) (latch : Bool) (causes : Causes)
  | carJoin (outcome : JoinOutcome) (car : Option CarIx) (unit : Nat) (line : Option LineId)
  | joinAsk (unit : Nat) (line : LineId)
  | carLost (car : CarIx) (unit : Nat) (cause : LostCause)
  | carFound (car : CarIx) (unit : Nat) (line : LineId)
  | capChange (car : CarIx) (kind : CapChangeKind) (value : Nat)
  | textEnd (car : CarIx) (seq : Nat) (outcome : TextOutcome)
  | halt (on : Bool) (causes : Causes)
  | lineState (line : LineId) (state : LineState)
  deriving DecidableEq, Repr

/-- A frame without its envelope (R165). -/
structure Frame where
  kind    : Nat
  tag     : Nat
  payload : List Byte
  deriving DecidableEq, Repr

/-- The reply in the reply holder, and how many notices of the outbox were generated before it (R169). -/
structure PendingReply where
  frame : Frame
  ahead : Nat
  deriving DecidableEq, Repr

/-- The frame on HTXD, and whether it is the reply of the reply holder. -/
structure Sending where
  frame   : Frame
  isReply : Bool
  deriving DecidableEq, Repr

structure Link where
  /-- the bytes of the frame being received, from its sync byte on; empty while hunting (R166) -/
  held     : List RxChar
  /-- a byte of the frame being received was dropped (R167) -/
  damaged  : Bool
  /-- complete frames not yet taken, oldest first -/
  complete : List Frame
  /-- rejected-frame count -/
  rejected : Nat
  reply    : Option PendingReply
  outbox   : List Notice
  overflow : Bool
  /-- notice enables, bit k for the k-th kind of R170 -/
  mask     : BitVec 9
  /-- line rate code (R176) -/
  rate     : Nat
  sending  : Option Sending
  deriving DecidableEq, Repr

/-! ## The whole part -/

/-- How the orders that the manual leaves open are taken (DESIGN CHOICE, log 4): first as `fixed` says, which holds nothing at reset and lets
an order that was observed be replayed, and then by the free value of Config, `drawn` being how many it has given. -/
structure Choices where
  fixed : List Nat
  drawn : Nat
  deriving DecidableEq, Repr

/-- The next choice. -/
def Choices.head (c : Choices) : Nat :=
  match c.fixed with
  | k :: _ => k
  | [] => Config.openChoice c.drawn

/-- The choices after the next one. -/
def Choices.tail (c : Choices) : Choices :=
  match c.fixed with
  | _ :: l => { c with fixed := l }
  | [] => { c with drawn := c.drawn + 1 }

structure State where
  lineA     : Engine
  lineB     : Engine
  cars      : Vector Car 48
  queue     : Vector (List Entry) 8
  gates     : Vector Gate 8
  zones     : Vector Zone 16
  way       : WayParams
  asks      : List Ask
  admission : Admission
  halt      : Halt
  link      : Link
  /-- the model's own: how the orders that the manual leaves open are taken (log 4) -/
  choices   : Choices
  /-- the model's own: the commands that wait, first in, first out -/
  pending   : List Instr
  deriving DecidableEq, Repr

/-- Why a step may stop. The manual gives every command an effect in every state, so there is no reason and a
step cannot fault. -/
inductive Fault where
  deriving DecidableEq, Repr

/-- Why a command may have no meaning. -/
inductive Refusal where
  /-- Raised by no command of this model: it is the host's name for an arm of `exec` without a meaning. Safe. -/
  | notModelled (mnemonic : String)
  deriving DecidableEq, Repr

/-- The part right after a cold reset (R20, R22, R62, R78, R96, R98, R119, R120, R136, R164, R176). DESIGN CHOICE
(log 8): the ESTOP and fault inputs are released and both straps are low. -/
def State.reset : State where
  lineA     := Engine.cold false
  lineB     := Engine.cold false
  cars      := Vector.replicate 48 Car.free
  queue     := Vector.replicate 8 []
  gates     := Vector.replicate 8 Gate.cold
  zones     := Vector.replicate 16 Zone.cold
  way       := WayParams.default
  asks      := []
  admission := .closed
  halt      := { latch := false, pin := false, request := false, mode := .immediate, estop := false }
  link      :=
    { held := [], damaged := false, complete := [], rejected := 0, reply := none,
      outbox := [.started false 0 false .none], overflow := false, mask := 511#9, rate := 0, sending := none }
  choices   := { fixed := [], drawn := 0 }
  pending   := []

end Sys2Proof.Machine
end

