-- ==== Sys2Proof/Machine/Ops.lean ====
section
/-! DEFINITION. The named operations over the state that every block uses: reading and writing one line, one car,
one gate, one context; the lists of the traffic queue; the orders the manual leaves open; and the generation of a
notice. -/

namespace Sys2Proof.Machine

/-! ## Lines -/

/-- The other line. -/
def otherLine : LineId → LineId
  | .A => .B
  | .B => .A

/-- The line engine of line `X`. -/
def State.eng (s : State) : LineId → Engine
  | .A => s.lineA
  | .B => s.lineB

def State.setEng (s : State) (X : LineId) (e : Engine) : State :=
  match X with
  | .A => { s with lineA := e }
  | .B => { s with lineB := e }

def State.modEng (s : State) (X : LineId) (f : Engine → Engine) : State := s.setEng X (f (s.eng X))

/-- RUN and QUIET together are "in service" (02, "Line states"). -/
def LineState.inService : LineState → Bool
  | .run | .quiet => true
  | .off | .fault => false

def State.inService (s : State) (X : LineId) : Bool := (s.eng X).state.inService

/-! ## Cars -/

def State.car (s : State) (i : CarIx) : Car := s.cars[i]

def State.setCar (s : State) (i : CarIx) (c : Car) : State := { s with cars := s.cars.set i c }

def State.modCar (s : State) (i : CarIx) (f : Car → Car) : State := s.setCar i (f (s.car i))

/-- All roster slots in ascending order. -/
def allCars : List CarIx := List.finRange 48

/-- The air address of a roster slot (R1). -/
def airAddress (i : CarIx) : Nat := i.val + 1

/-- The slot holds a car (R1). -/
def Car.present (c : Car) : Bool := c.state != .free

/-- The lines on which a car may be served. -/
def Home.includes : Home → LineId → Bool
  | .a, .A | .b, .B | .both, _ => true
  | .a, .B | .b, .A => false

/-- The home that is line `X` alone. -/
def homeOf : LineId → Home
  | .A => .a
  | .B => .b

/-- The line whose cycle starts and ends count for a car (R12, R111). -/
def Home.countingLine : Home → LineId
  | .a | .both => .A
  | .b => .B

/-- The roster slot of a non-FREE record that carries unit id `u` (R1: there is at most one). -/
def State.carOfUnit (s : State) (u : Nat) : Option CarIx :=
  allCars.find? fun i => (s.car i).present && (s.car i).unitId == u

/-- The lowest-numbered FREE slot (R73). -/
def State.lowestFree (s : State) : Option CarIx := allCars.find? fun i => !(s.car i).present

/-- The parked link state of a car for line `X`. -/
def Car.parked (c : Car) : LineId → Option Parked
  | .A => c.parkedA
  | .B => c.parkedB

def Car.setParked (c : Car) (X : LineId) (p : Option Parked) : Car :=
  match X with
  | .A => { c with parkedA := p }
  | .B => { c with parkedB := p }

/-- Adds 1 and stops at `bound` (00, "Optional fields, counts and saturation"). -/
def satAdd1 (bound n : Nat) : Nat := min bound (n + 1)

/-- The doze level as a number; a higher number is deeper (00, "Named values"). -/
def Doze.level : Doze → Nat
  | .awake => 0
  | .light => 1
  | .deep => 2
  | .parked => 3

/-- DEEP or PARKED. -/
def Doze.isDeep (d : Doze) : Bool := decide (2 ≤ d.level)

/-- The poll interval a doze level implies, in cycles (00, "Named values"; R13). -/
def Doze.interval : Doze → Nat
  | .awake => 1
  | .light => 4
  | .deep => 16
  | .parked => 64

/-- The shallower of two doze levels (R148). -/
def Doze.shallower (a b : Doze) : Doze := if a.level ≤ b.level then a else b

/-! ## The traffic queue -/

def Job.carOf : Job → Option CarIx
  | .poll i | .drive i | .text i _ => some i
  | .assign _ => none

def Entry.isPollOf (i : CarIx) (e : Entry) : Bool :=
  match e.job with
  | .poll j => j == i
  | _ => false

def Entry.isDriveOf (i : CarIx) (e : Entry) : Bool :=
  match e.job with
  | .drive j => j == i
  | _ => false

def Entry.isTextOf (i : CarIx) (e : Entry) : Bool :=
  match e.job with
  | .text j _ => j == i
  | _ => false

def Entry.isAssign (e : Entry) : Bool :=
  match e.job with
  | .assign _ => true
  | _ => false

def Entry.isAssignFor (u : Nat) (e : Entry) : Bool :=
  match e.job with
  | .assign a => a.unitId == u
  | _ => false

/-- An ASSIGN with outcome ROOM that tells slot `i`'s address (R17, R148). -/
def Entry.isRoomOf (i : CarIx) (e : Entry) : Bool :=
  match e.job with
  | .assign a => a.outcome == .room (airAddress i)
  | _ => false

/-- The TEXT of an entry and its car. -/
def Entry.textOf (e : Entry) : Option (CarIx × Text) :=
  match e.job with
  | .text i t => some (i, t)
  | _ => none

/-- Every entry, level 0 first, in list order. -/
def State.entries (s : State) : List Entry := s.queue.toList.flatten

/-- Applies `f` to each level's list. -/
def State.mapLevels (s : State) (f : List Entry → List Entry) : State := { s with queue := s.queue.map f }

/-- Removes the entries that satisfy `p`; the others keep their order (R41). -/
def State.dropEntries (s : State) (p : Entry → Bool) : State := s.mapLevels fun l => l.filter fun e => !p e

/-- Changes entries in place. -/
def State.mapEntries (s : State) (f : Entry → Entry) : State := s.mapLevels fun l => l.map f

/-- Adds an entry at the tail of a level. -/
def State.putTail (s : State) (l : Fin 8) (e : Entry) : State := { s with queue := s.queue.set l (s.queue[l] ++ [e]) }

/-- Adds an entry at the head of a level. -/
def State.putHead (s : State) (l : Fin 8) (e : Entry) : State := { s with queue := s.queue.set l (e :: s.queue[l]) }

def State.put (s : State) (p : Placement) (l : Fin 8) (e : Entry) : State :=
  match p with
  | .head => s.putHead l e
  | .tail => s.putTail l e

/-- The most urgent level that holds an entry with `p`. -/
def State.levelOf (s : State) (p : Entry → Bool) : Option (Fin 8) :=
  (List.finRange 8).find? fun l => s.queue[l].any p

def State.hasPoll (s : State) (i : CarIx) : Bool := s.entries.any (Entry.isPollOf i)
def State.hasDrive (s : State) (i : CarIx) : Bool := s.entries.any (Entry.isDriveOf i)
def State.hasText (s : State) (i : CarIx) : Bool := s.entries.any (Entry.isTextOf i)

/-- The TEXTs of a car in the queue. -/
def State.textsOf (s : State) (i : CarIx) : List Text :=
  s.entries.filterMap fun e => match e.job with
    | .text j t => if j == i then some t else none
    | _ => none

/-- The TEXT in the text seat of engine `X`, with its car (R37, R51). -/
def State.seat (s : State) (X : LineId) : Option (CarIx × Text) :=
  (s.entries.filterMap Entry.textOf).find? fun p => p.2.seat == some X

/-- ceil(characters / 8) (R41). -/
def Text.fragments (t : Text) : Nat := (t.chars.length + 7) / 8

/-- The entry that engine `X` has engaged and that satisfies `p`. -/
def State.engagedBy (s : State) (X : LineId) (p : Entry → Bool) : Option Entry :=
  s.entries.find? fun e => e.engaged == some X && p e

/-- Every entry of engine `X` is disengaged. -/
def State.disengage (s : State) (X : LineId) : State :=
  s.mapEntries fun e => if e.engaged == some X then { e with engaged := none } else e

/-- Head-end pool entries in use (R60). -/
def State.poolInUse (s : State) : Nat :=
  (s.entries.filter fun e => e.textOf.isSome).length
    + (allCars.filter fun i => (s.car i).present && (s.car i).textAwait.isSome).length
    + (s.gates.toList.map fun g => g.hold.length).sum

/-- ASSIGN entries in the queue (R42). -/
def State.assignCount (s : State) : Nat := (s.entries.filter Entry.isAssign).length

/-! ## Gates and contexts -/

def State.gate (s : State) (g : Fin 8) : Gate := s.gates[g]

def State.setGate (s : State) (g : Fin 8) (x : Gate) : State := { s with gates := s.gates.set g x }

def State.modGate (s : State) (g : Fin 8) (f : Gate → Gate) : State := s.setGate g (f (s.gate g))

def State.zone (s : State) (z : Fin 16) : Zone := s.zones[z]

def Engine.context (e : Engine) (k : Fin 6) : Ctx := e.ctx[k]

def Engine.setContext (e : Engine) (k : Fin 6) (c : Ctx) : Engine := { e with ctx := e.ctx.set k c }

/-- The index of the context that car `i` owns on the line (R81: at most one). -/
def Engine.contextOf (e : Engine) (i : CarIx) : Option (Fin 6) :=
  (List.finRange 6).find? fun k => (e.context k).owner == some i

/-! ## Orders the manual leaves open (DESIGN CHOICE, log 4) -/

/-- Puts the elements of `l` in the order that `choices` gives: each choice picks the next element among those left
(modulo their number). `n` bounds the recursion; it is the length of `l`. -/
def arrange {α : Type} : Nat → Choices → List α → List α × Choices
  | 0, choices, l => (l, choices)
  | _, choices, [] => ([], choices)
  | _, choices, [a] => ([a], choices)
  | n + 1, choices, a :: b :: l =>
    let all := a :: b :: l
    let k := choices.head % all.length
    let rest := arrange n choices.tail (all.eraseIdx k)
    (all.getD k a :: rest.1, rest.2)

/-- The elements of `l` in an order that the manual leaves open, and the state with the choices used up. -/
def State.inSomeOrder {α : Type} (s : State) (l : List α) : List α × State :=
  let r := arrange l.length s.choices l
  (r.1, { s with choices := r.2 })

/-! ## Notices (R170 to R172) -/

/-- The place of a notice's kind in the mask (R171). -/
def Notice.bit : Notice → Nat
  | .started .. => 0
  | .carJoin .. => 1
  | .joinAsk .. => 2
  | .carLost .. => 3
  | .carFound .. => 4
  | .capChange .. => 5
  | .textEnd .. => 6
  | .halt .. => 7
  | .lineState .. => 8

/-- Generates a notice: nothing when its kind is disabled, else the tail of the outbox, or the overflow flag when the
outbox holds 32 (R170, R172). -/
def Link.notify (k : Link) (n : Notice) : Link :=
  if k.mask.getLsbD n.bit then
    if k.outbox.length < Config.outboxSize then { k with outbox := k.outbox ++ [n] }
    else { k with overflow := true }
  else k

def State.notify (s : State) (n : Notice) : State := { s with link := s.link.notify n }

/-- The causes as a notice carries them (R170). -/
def causesOf (pin request : Bool) : Causes :=
  match pin, request with
  | true, true => .both
  | true, false => .pin
  | false, true => .request
  | false, false => .none

end Sys2Proof.Machine
end

