-- ==== Sys2Proof/Machine/Flags.lean ====
section
/-! DEFINITION. The flags that several blocks set or read: eligibility of an entry (R48, R49), the break-pending flag
of a line (R152), the listening flag and the wake of a dozing car (R150, R151), and the output pins of a line (R28,
R86, R156). -/

namespace Sys2Proof.Machine

/-! ## Eligibility (R48) -/

/-- The TEXT is the car's oldest (R47). -/
def State.isOldest (s : State) (i : CarIx) (t : Text) : Bool := (s.textsOf i).all fun u => decide (t.stamp ≤ u.stamp)

/-- The conditions of R48 for a command slot of `X`, save the state of line `X`. -/
def State.commandReady (s : State) (X : LineId) (e : Entry) : Bool :=
  e.engaged != some (otherLine X) && !s.halt.latch &&
  match e.job with
  | .poll _ => false
  | .drive i => (s.car i).home.includes X && (s.car i).listening
  | .text i t =>
    (s.car i).home.includes X && (s.car i).listening && s.isOldest i t && (s.car i).textAwait.isNone
      && (s.textsOf i).all (fun u => u.stamp == t.stamp || u.seat.isNone)
      && t.seat != some (otherLine X)
      && (match s.seat X with
          | none => true
          | some (j, u) => j == i && u.stamp == t.stamp)
  | .assign a => a.line == X

/-- Eligible for engine `X` in a command slot (R48, R49): only in RUN. -/
def State.commandEligible (s : State) (X : LineId) (e : Entry) : Bool :=
  (s.eng X).state == .run && s.commandReady X e

/-- Eligible for engine `X` in a poll slot (R48): a POLL of a car whose home includes `X`. -/
def State.pollEligible (s : State) (X : LineId) (e : Entry) : Bool :=
  s.inService X && e.engaged != some (otherLine X) &&
  match e.job with
  | .poll i => (s.car i).home.includes X
  | .drive _ | .text .. | .assign _ => false

/-! ## Break events (R152) -/

/-- A break event of line `X`: sets its break-pending flag while it is in service (DEDUCED, log 12). -/
def State.breakLine (s : State) (X : LineId) : State :=
  if s.inService X then s.modEng X fun e => { e with breakPending := true } else s

/-- A break event of every line of a home. -/
def State.breakHome (s : State) (h : Home) : State :=
  let s := if h.includes .A then s.breakLine .A else s
  if h.includes .B then s.breakLine .B else s

/-- Line `X` takes a break event when an entry with `p` is eligible for one of its command slots as if it were RUN. -/
def State.judgeLine (s : State) (p : Entry → Bool) (X : LineId) : State :=
  if s.entries.any (fun e => p e && s.commandReady X e) then s.breakLine X else s

/-- Judges, for both lines, the entries with `p` that an event may have made eligible (R152). -/
def State.judge (s : State) (p : Entry → Bool) : State := (s.judgeLine p .A).judgeLine p .B

/-- The DRIVE or TEXT entries of a car. -/
def Entry.isCommandOf (i : CarIx) (e : Entry) : Bool := e.isDriveOf i || e.isTextOf i

/-- The TEXT of a car with that place in its text order. -/
def Entry.isTextAt (i : CarIx) (stamp : Nat) (e : Entry) : Bool :=
  match e.job with
  | .text j t => j == i && t.stamp == stamp
  | _ => false

/-! ## Listening and the wake (R150, R151) -/

/-- The listening flag is set at a valid reply to a poll that carried AWAKE, and the car's entries are judged. -/
def State.startListening (s : State) (i : CarIx) : State :=
  (s.modCar i fun c => { c with listening := true }).judge (Entry.isCommandOf i)

/-- A TEXT of the car enters the queue while the car is granted more than AWAKE (R150). -/
def State.wake (s : State) (i : CarIx) : State :=
  if (s.car i).grantedDoze = .awake then s
  else
    (s.modCar i fun c => { c with grantedDoze := .awake, lightRun := 0, listening := false }).breakHome (s.car i).home

/-! ## Output pins -/

/-- The transmitter-rest output, true while asserted: OFF and FAULT assert it, RUN deasserts it, and QUIET deasserts it
while a burst goes out (R28, R156). -/
def Engine.restOut (e : Engine) : Bool :=
  match e.state with
  | .off | .fault => true
  | .run => false
  | .quiet => e.burst.isNone

/-- The receive gain output: the gain step of the polled car's context from the building of the poll to the end of its
slot, and step 8 at every other time (R86). -/
def Engine.gainOut (e : Engine) : Nat :=
  match e.poll with
  | some p => p.gain
  | none => Config.restingGain

end Sys2Proof.Machine
end

