-- ==== Sys2Proof/Machine/Queue.lean ====
section
/-! DEFINITION. The traffic queue's operations: ensuring a DRIVE, offering an ASSIGN, taking a TEXT in, the pick, and
unseating (R43 to R58). -/

namespace Sys2Proof.Machine

/-! ## Levels -/

/-- The level of a new POLL (R43). -/
def Car.pollLevel (c : Car) : Fin 8 :=
  if c.state = .joining ∨ c.state = .missing ∨ c.gapCap.isSome then 3
  else if c.state = .lost then 6
  else if c.grantedDoze = .awake ∨ c.grantedDoze = .light then 4
  else 6

/-- The level that the cap comparison gives a DRIVE (R44). -/
def Car.driveLevel (c : Car) : Fin 8 :=
  if c.effectiveCap = 0 ∧ c.gapCap = some 0 ∧ 0 < c.confirmedCap then 0
  else if c.effectiveCap < c.confirmedCap then 1
  else 7

/-- The level needed: in the JOINING-to-HEARD, RESUME and release cases the more urgent of 3 and the comparison. -/
def Car.neededLevel (c : Car) (urgent : Bool) : Fin 8 := if urgent then min 3 c.driveLevel else c.driveLevel

/-! ## DRIVE -/

/-- Moves the entries with `p` out of their places to the tail of level `l`, engagement and all. -/
def State.moveToTail (s : State) (p : Entry → Bool) (l : Fin 8) : State :=
  (s.entries.filter p).foldl (fun s e => s.putTail l e) (s.dropEntries p)

/-- Ensures a DRIVE for the car: adds one, or moves the queued one when it is less urgent than needed (R44). -/
def State.ensureDrive (s : State) (i : CarIx) (urgent : Bool) : State :=
  let l := (s.car i).neededLevel urgent
  match s.levelOf (Entry.isDriveOf i) with
  | none => (s.putTail l { job := .drive i, engaged := none }).judge (Entry.isDriveOf i)
  | some k =>
    if l < k then (s.moveToTail (Entry.isDriveOf i) l).judge (Entry.isDriveOf i)
    else s

/-! ## ASSIGN -/

/-- An ASSIGN would find no place: four are queued and none is for `u` (R72, R76, R77). -/
def State.assignBlocked (s : State) (u : Nat) : Bool :=
  decide (Config.assignPlaces ≤ s.assignCount) && !s.entries.any (Entry.isAssignFor u)

/-- Offers an ASSIGN to the queue: it replaces the one of the same unit in place, or joins level 2 at the tail, or is not
added when four are queued (R45). That an ASSIGN replaced in place is judged as a break event, as one that joins the queue
is, is the model's (R152; DESIGN CHOICE, log 31). -/
def State.offerAssign (s : State) (a : Assign) : State :=
  if s.entries.any (Entry.isAssignFor a.unitId) then
    (s.mapEntries fun e => if e.isAssignFor a.unitId then { e with job := .assign a } else e).judge
      (Entry.isAssignFor a.unitId)
  else if s.assignCount < Config.assignPlaces then
    (s.putTail 2 { job := .assign a, engaged := none }).judge (Entry.isAssignFor a.unitId)
  else s

/-! ## TEXT -/

/-- The place at the tail of a car's text order: behind every TEXT queued or awaiting acknowledgement (R47). -/
def State.nextStamp (s : State) (i : CarIx) : Nat :=
  let queued := (s.textsOf i).map (·.stamp)
  let awaited := match (s.car i).textAwait with
    | some w => [w.stamp]
    | none => []
  ((queued ++ awaited).map (· + 1)).foldl max 0

/-- A TEXT joins the queue with the place in the text order it already has (R57): the wake and the break follow. -/
def State.queueText (s : State) (p : Placement) (i : CarIx) (t : Text) : State :=
  ((s.put p t.level { job := .text i t, engaged := none }).wake i).judge (Entry.isTextAt i t.stamp)

/-- A TEXT first enters the queue, from CAR_TEXT or a gate: at the tail of the car's text order (R46, R138, R140). -/
def State.enterText (s : State) (p : Placement) (i : CarIx) (t : Text) : State :=
  s.queueText p i { t with stamp := s.nextStamp i }

/-- Unseats the TEXTs with `p` that engine `X` has seated (R58). Each is judged on both lines, and every TEXT on `X`, whose
seat is empty now (R48, R152; DEDUCED, log 29). -/
def State.unseat (s : State) (X : LineId) (p : CarIx → Bool) : State :=
  let hit (e : Entry) : Bool := match e.job with
    | .text i t => t.seat == some X && p i
    | _ => false
  let stamps := (s.entries.filter hit).filterMap Entry.textOf
  let s := s.mapEntries fun e => match e.job with
    | .text i t => if hit e then { e with job := .text i { t with next := 0, seat := none } } else e
    | _ => e
  if stamps.isEmpty then s
  else (s.judge fun e => stamps.any fun it => e.isTextAt it.1 it.2.stamp).judgeLine (fun e => e.textOf.isSome) X

/-! ## The pick (R50) -/

/-- The first entry with `p`, scanning the levels from 0 and each in list order. -/
def State.pick (s : State) (p : Entry → Bool) : Option Entry := s.entries.find? p

/-- Engine `X` engages the entries of a car or unit that satisfy `p`. -/
def State.engage (s : State) (X : LineId) (p : Entry → Bool) : State :=
  s.mapEntries fun e => if p e then { e with engaged := some X } else e

/-! ## POLLs of a cut slot (R39) -/

/-- The POLL that engine `X` has engaged goes to the head of its level, disengaged. -/
def State.returnPoll (s : State) (X : LineId) : State :=
  s.mapLevels fun l =>
    let mine (e : Entry) : Bool := e.engaged == some X && (match e.job with | .poll _ => true | _ => false)
    (l.filter mine).map (fun e => { e with engaged := none }) ++ l.filter fun e => !mine e

end Sys2Proof.Machine
end

