-- ==== Sys2Proof/Machine/Caps.lean ====
section
/-! DEFINITION. Speed caps and the gap guard: the way order, the stopping distance, the limit a neighbour sets, the gap
evaluation and the effective cap (R117, R124 to R131). -/

namespace Sys2Proof.Machine

/-! ## The effective cap (R131) -/

/-- The lowest of head, zone and gap cap, an absent gap cap counting as 255. -/
def Car.lowestCap (c : Car) : Nat := min (min c.headCap c.zoneCap) (c.gapCap.getD 255)

/-- Recomputes a car's effective cap and ensures a DRIVE when that changes it (R131). -/
def State.recompute (s : State) (i : CarIx) : State :=
  if (s.car i).lowestCap = (s.car i).effectiveCap then s
  else (s.modCar i fun c => { c with effectiveCap := c.lowestCap }).ensureDrive i false

/-- The head cap becomes `code` (R132, R138, R141). -/
def State.applyHeadCap (s : State) (i : CarIx) (code : Nat) : State :=
  (s.modCar i fun c => { c with headCap := code }).recompute i

/-! ## The way order (R117) -/

/-- The position of a car that is in the way order. -/
def State.placeOf (s : State) (i : CarIx) : Option Int :=
  if (s.car i).present then (s.car i).position.map (·.dm) else none

/-- Puts a car behind every car whose position is at most its own. -/
def State.insertByPlace (s : State) (i : CarIx) : List CarIx → List CarIx
  | [] => [i]
  | j :: l =>
    if (s.placeOf j).getD 0 ≤ (s.placeOf i).getD 0 then j :: s.insertByPlace i l else i :: j :: l

/-- Every car with a position, ascending by position, equal positions by slot (R117). -/
def State.wayOrder (s : State) : List CarIx :=
  (allCars.filter fun i => (s.placeOf i).isSome).foldl (fun l i => s.insertByPlace i l) []

/-! ## Stopping distance and limits (R124 to R127) -/

/-- `⌈x / y⌉`. -/
def ceilDiv (x y : Nat) : Nat := (x + y - 1) / y

/-- The stopping distance at speed code `c`, margin included (R124). -/
def WayParams.required (w : WayParams) (c : Nat) : Nat :=
  let v := 5 * c
  w.margin + ceilDiv (2 * w.braking * v * w.reaction + 10 * v ^ 2) (200 * w.braking)

/-- The largest `c` up to `n` with `p c`, or 0. -/
def largestUpTo (p : Nat → Bool) : Nat → Nat
  | 0 => 0
  | n + 1 => if p (n + 1) then n + 1 else largestUpTo p n

/-- The limit for a given gap and toward-speed (R126). -/
def WayParams.limit (w : WayParams) (gap toward : Nat) : Nat :=
  largestUpTo (fun c => decide (w.required (min 255 (c + toward)) ≤ gap)) 255

/-- The free distance between the spans of two cars, less one car length (R125). -/
def State.gapBetween (s : State) (i j : CarIx) : Nat :=
  (((s.placeOf j).getD 0 - (s.placeOf i).getD 0).natAbs : Nat)
    - ((s.car i).uncertainty + (s.car j).uncertainty + s.way.carLength)

/-- The toward-speed of neighbour `j`, which stands after the car in the way order or before it (R125). -/
def Car.towardSpeed (j : Car) (after : Bool) : Nat :=
  match j.direction, after with
  | .neg, true | .pos, false => j.speed
  | .neg, false | .pos, true | .still, _ => 0

/-- The limit that a neighbour sets for car `i`; no neighbour sets none, 255 (R126, R127). -/
def State.neighbourLimit (s : State) (i : CarIx) (after : Bool) : Option CarIx → Nat
  | none => 255
  | some j => s.way.limit (s.gapBetween i j) ((s.car j).towardSpeed after)

/-- The new limit of car `i` between its neighbours (R127). -/
def State.newLimit (s : State) (before after : Option CarIx) (i : CarIx) : Nat :=
  match (s.car i).direction with
  | .pos => s.neighbourLimit i true after
  | .neg => s.neighbourLimit i false before
  | .still => min (s.neighbourLimit i false before) (s.neighbourLimit i true after)

/-- The new limit of every car of a stretch of the way order; `before` is the car that stands before the stretch. -/
def State.limitsAlong (s : State) (before : Option CarIx) : List CarIx → List (CarIx × Nat)
  | [] => []
  | i :: l => (i, s.newLimit before l.head? i) :: s.limitsAlong (some i) l

/-! ## The gap evaluation (R128 to R130) -/

/-- How a new limit replaces a gap cap (R128). -/
def nextGapCap (hysteresis : Nat) (old : Option Nat) (limit : Nat) : Option Nat :=
  if 255 ≤ limit then none
  else
    match old with
    | none => some limit
    | some g => if limit < g ∨ g + hysteresis ≤ limit then some limit else some g

/-- The CAP_CHANGE that a change of the gap cap queues (R130). -/
def capChange (i : CarIx) (old new : Option Nat) : Option Notice :=
  match old, new with
  | none, some 0 => some (.capChange i .zero 0)
  | none, some g => some (.capChange i .appeared g)
  | some (_ + 1), some 0 => some (.capChange i .zero 0)
  | some _, none => some (.capChange i .cleared 255)
  | none, none | some 0, some _ | some (_ + 1), some (_ + 1) => none

/-- One car's new limit takes effect: gap cap, notice, effective cap and DRIVE. -/
def State.takeLimit (s : State) (i : CarIx) (limit : Nat) : State :=
  let old := (s.car i).gapCap
  let new := nextGapCap s.way.hysteresis old limit
  let s := s.modCar i fun c => { c with gapCap := new }
  let s := match capChange i old new with
    | some n => s.notify n
    | none => s
  s.recompute i

/-- A gap evaluation of the whole way: every limit comes from the same inputs, and the cars take them in ascending slot
order (R129; the same for their DRIVEs: DEDUCED, log 17). -/
def State.evaluateGaps (s : State) : State :=
  let limits := s.limitsAlong none s.wayOrder
  allCars.foldl (fun s i => match limits.lookup i with
    | some l => s.takeLimit i l
    | none => s) s

end Sys2Proof.Machine
end

