-- ==== Sys2Proof/Machine/Gates.lean ====
section
/-! DEFINITION. Gates: opens, releases, source events, and the zone evaluation that makes zone entries
(R122, R123, R138 to R142). -/

namespace Sys2Proof.Machine

/-- What one open of a gate did (R139, R143). -/
inductive Opened where
  | text (car : CarIx) (seq : Nat)
  | cap (car : CarIx) (code : Nat)
  | banked (credit : Nat)
  | nothing
  deriving DecidableEq, Repr

/-- One open of a gate: the first held entry is released, or a credit is banked, or nothing (R139 to R141). -/
def State.openGate (s : State) (g : Fin 8) : State × Opened :=
  let x := s.gate g
  match x.hold with
  | .text i t :: rest =>
    ((s.modGate g fun x => { x with hold := rest }).enterText x.placement i { t with next := 0, seat := none },
      .text i t.seq)
  | .cap i code :: rest =>
    ((s.modGate g fun x => { x with hold := rest }).applyHeadCap i code, .cap i code)
  | [] =>
    if x.banking then
      (s.modGate g fun x => { x with credit := satAdd1 15 x.credit }, .banked (satAdd1 15 x.credit))
    else (s, .nothing)

/-- A source event opens every gate that selects it, in an order the manual leaves open (R142, log 4). -/
def State.sourceEvent (s : State) (src : Source) : State :=
  let r := s.inSomeOrder ((List.finRange 8).filter fun g => (s.gate g).source == src)
  r.1.foldl (fun s g => (s.openGate g).1) r.2

/-! ## Zones (R122, R123) -/

/-- An enabled zone touches the span of a car (R122). -/
def Zone.touches (z : Zone) (position : Int) (uncertainty : Nat) : Bool :=
  z.enabled && decide (z.lo ≤ position + uncertainty) && decide (position - uncertainty ≤ z.hi)

/-- The zones that a car's span touches now, ascending. -/
def State.touched (s : State) (i : CarIx) : List (Fin 16) :=
  match (s.car i).position with
  | none => []
  | some p => (List.finRange 16).filter fun z => (s.zone z).touches p.dm (s.car i).uncertainty

/-- A zone evaluation of a car (R122, R123, R131): the touch set, the zone cap and the effective cap, and its entries to the
gates in ascending zone order. That the effective cap is recomputed before the gates open is the model's (DESIGN CHOICE, log
27): the manual says only that both belong to the one event. -/
def State.evaluateZones (s : State) (i : CarIx) : State :=
  let new := s.touched i
  let old := (s.car i).touch
  let cap := (new.map fun z => (s.zone z).cap).foldl min 255
  let s := (s.modCar i fun c => { c with touch := new, zoneCap := cap }).recompute i
  (new.filter fun z => !old.contains z).foldl (fun s z => s.sourceEvent (.carInZone i z)) s

end Sys2Proof.Machine
end

