-- ==== Sys2Proof/Machine/Contexts.lean ====
section
/-! DEFINITION. Link contexts: obtaining, eviction, parking, and what a slot's result does to one (R82 to R96). -/

namespace Sys2Proof.Machine

def State.context (s : State) (X : LineId) (k : Fin 6) : Ctx := (s.eng X).context k

def State.setContext (s : State) (X : LineId) (k : Fin 6) (c : Ctx) : State :=
  s.modEng X fun e => e.setContext k c

/-! ## Giving back (R84, R92 to R94) -/

/-- Parks a context into its owner's record when it is dirty (R84). -/
def State.park (s : State) (X : LineId) (k : Fin 6) : State :=
  let c := s.context X k
  match c.owner with
  | some i =>
    if c.dirty then s.modCar i fun r => r.setParked X (some { centre := c.centre, gain := c.gain }) else s
  | none => s

/-- Frees a context, parking it first (R84, R92, R93). -/
def State.parkAndFree (s : State) (X : LineId) (k : Fin 6) : State := (s.park X k).setContext X k Ctx.free

/-- Parks and frees the context of car `i` on line `X`, if it has one (R92). -/
def State.releaseContext (s : State) (X : LineId) (i : CarIx) : State :=
  match (s.eng X).contextOf i with
  | some k => s.parkAndFree X k
  | none => s

/-- Frees the car's contexts on both lines without parking and clears both parked states (R94). -/
def State.forgetContexts (s : State) (i : CarIx) : State :=
  let free (s : State) (X : LineId) : State :=
    match (s.eng X).contextOf i with
    | some k => s.setContext X k Ctx.free
    | none => s
  (free (free s .A) .B).modCar i fun c => { c with parkedA := none, parkedB := none }

/-- Parks and frees every context of a line that leaves service (R93). -/
def State.freeAllContexts (s : State) (X : LineId) : State :=
  (List.finRange 6).foldl (fun s k => s.parkAndFree X k) s

/-! ## Obtaining (R82, R83, R85) -/

/-- The age of a context at cycle number `cycle` (R83). -/
def Ctx.age (c : Ctx) (cycle : Nat) : Nat := (cycle + 65536 - c.stamp) % 65536

/-- The context to evict: of greatest age, the lowest-numbered of equals, save a context whose owner is the car of the
engine's text seat (R83). -/
def Engine.victim (e : Engine) (seated : Option CarIx) : Option (Fin 6) :=
  (List.finRange 6).foldl (fun best k =>
    if seated.isSome ∧ (e.context k).owner = seated then best
    else match best with
      | none => some k
      | some b => if (e.context b).age e.cycle < (e.context k).age e.cycle then some k else best) none

/-- The values loaded into a context given to car `i` (R85). -/
def loadedContext (i : CarIx) (parked : Option Parked) : Ctx :=
  match parked with
  | some p => { Ctx.free with owner := some i, mode := .narrow, centre := p.centre, gain := p.gain }
  | none => { Ctx.free with owner := some i }

/-- The context that car `i` is polled with: its own, or the lowest-numbered free one, or an evicted one (R82, R83). -/
def State.chooseContext (s : State) (X : LineId) (i : CarIx) : Fin 6 :=
  match (s.eng X).contextOf i with
  | some k => k
  | none =>
    match (List.finRange 6).find? fun k => (s.context X k).owner.isNone with
    | some k => k
    | none => ((s.eng X).victim ((s.seat X).map (·.1))).getD 0

/-- Car `i` obtains context `k` of line `X`: it is loaded unless the car owns it already, after the parking of an evicted
owner; the stamp is taken (R82, R84, R85). -/
def State.obtainContext (s : State) (X : LineId) (i : CarIx) (k : Fin 6) : State :=
  let s :=
    if (s.context X k).owner = some i then s
    else
      let s := s.parkAndFree X k
      s.setContext X k (loadedContext i ((s.car i).parked X))
  s.setContext X k { s.context X k with stamp := (s.eng X).cycle }

/-! ## After the slot (R88 to R90) -/

/-- The miss reasons of R100. -/
inductive MissReason where
  | noEdge | clash | garbled | far | faint
  deriving DecidableEq, Repr

/-- The gain step after a valid reply of that level (R88). -/
def adjustGain (gain level : Nat) : Nat :=
  if 49 ≤ level then gain - 1 else if level ≤ 15 then min 15 (gain + 1) else gain

/-- A valid reply at effective count `count`, raw distance `distance` and level `level` (R88). -/
def Ctx.afterValid (c : Ctx) (count distance level : Nat) : Ctx :=
  let h := c.history ++ [distance]
  { c with
    centre := count, mode := .narrow, narrowMisses := 0, history := h.drop (h.length - 3),
    gain := adjustGain c.gain level, dirty := true }

/-- A miss (R89, R90). -/
def Ctx.afterMiss (c : Ctx) (reason : MissReason) : Ctx :=
  let c := if reason = .faint then { c with gain := min 15 (c.gain + 1) } else c
  match c.mode with
  | .wide => c
  | .narrow =>
    let n := c.narrowMisses + 1
    let c := { c with narrowMisses := n, dirty := c.dirty || reason == .faint }
    if 2 ≤ n then { c with mode := .wide, dirty := true } else c

/-- The car's context on the line takes a slot's result. -/
def State.modContextOf (s : State) (X : LineId) (i : CarIx) (f : Ctx → Ctx) : State :=
  match (s.eng X).contextOf i with
  | some k => s.setContext X k (f (s.context X k))
  | none => s

end Sys2Proof.Machine
end

