-- ==== Sys2Proof/Machine/Operands.lean ====
section
/-! DEFINITION. The formats of the two sides: numbers and named values as bytes of a frame (R165, R168, R170), the
CRC-16 of a frame and the CRC-8 of a burst, and the bodies of the bursts (R63 to R68). -/

namespace Sys2Proof.Machine

/-! ## Numbers as bytes (R165) -/

/-- `k` in `n` bytes, least significant byte first. -/
def leBytes : Nat → Nat → List Byte
  | 0, _ => []
  | n + 1, k => BitVec.ofNat 8 k :: leBytes n (k / 256)

/-- A signed number in `n` bytes, two's complement, least significant byte first. -/
def leBytesInt (n : Nat) (x : Int) : List Byte := leBytes n (x % (256 ^ n : Int)).toNat

/-- The number that bytes spell, least significant byte first. -/
def ofLE : List Byte → Nat
  | [] => 0
  | b :: bs => b.toNat + 256 * ofLE bs

/-- The signed number that four bytes spell in two's complement. -/
def ofLEInt32 (bs : List Byte) : Int :=
  let n := ofLE bs
  if n < 2 ^ 31 then n else (n : Int) - 2 ^ 32

/-- Byte `k` of a payload as a number. -/
def byteAt (p : List Byte) (k : Nat) : Nat := (p.getD k 0).toNat

/-- The little-endian number in `n` bytes of a payload from byte `k` on. -/
def fieldAt (p : List Byte) (k n : Nat) : Nat := ofLE ((p.drop k).take n)

/-- One byte. -/
def b1 (n : Nat) : List Byte := leBytes 1 n

/-- A flag of two values: 1 for yes, set, on, enabled or held (R165). -/
def flag (b : Bool) : List Byte := b1 (if b then 1 else 0)

/-- An optional field of `n` bytes; absent is the all-ones value (R165). -/
def optBytes (n : Nat) (x : Option Nat) : List Byte := leBytes n (x.getD (256 ^ n - 1))

/-! ## Named values as numbers (R165) -/

def lineCode : LineId → Nat
  | .A => 0
  | .B => 1

def lineOfCode : Nat → Option LineId
  | 0 => some .A
  | 1 => some .B
  | _ => none

def LineState.code : LineState → Nat
  | .off => 0
  | .run => 1
  | .quiet => 2
  | .fault => 3

def CarState.code : CarState → Nat
  | .free => 0
  | .joining => 1
  | .heard => 2
  | .missing => 3
  | .lost => 4

def Home.code : Home → Nat
  | .a => 0
  | .b => 1
  | .both => 2

def Direction.code : Direction → Nat
  | .neg => 0
  | .pos => 1
  | .still => 2

def CarFaults.code : CarFaults → Nat
  | .none => 0
  | .brake => 1
  | .traction => 2
  | .both => 3

def Admission.code : Admission → Nat
  | .opened => 0
  | .closed => 1

def admissionOfCode : Nat → Option Admission
  | 0 => some .opened
  | 1 => some .closed
  | _ => none

def HaltMode.code : HaltMode → Nat
  | .immediate => 0
  | .slotBound => 1

def haltModeOfCode : Nat → Option HaltMode
  | 0 => some .immediate
  | 1 => some .slotBound
  | _ => none

def Placement.code : Placement → Nat
  | .head => 0
  | .tail => 1

def placementOfCode : Nat → Option Placement
  | 0 => some .head
  | 1 => some .tail
  | _ => none

def JoinOutcome.code : JoinOutcome → Nat
  | .admitted => 0
  | .refused => 1
  | .full => 2
  | .lapsed => 3
  | .timedOut => 4

def LostCause.code : LostCause → Nat
  | .misses => 0
  | .lineDown => 1

def CapChangeKind.code : CapChangeKind → Nat
  | .appeared => 0
  | .zero => 1
  | .cleared => 2

def TextOutcome.code : TextOutcome → Nat
  | .delivered => 0
  | .failed => 1
  | .cancelled => 2

def Causes.code : Causes → Nat
  | .pin => 0
  | .request => 1
  | .both => 2
  | .none => 3

/-- The number of a gate source's kind (R136, R165). -/
def Source.code : Source → Nat
  | .none => 0
  | .cycleEnd .A => 1
  | .cycleEnd .B => 2
  | .carHeard _ => 3
  | .carInZone .. => 4
  | .carStill _ => 5
  | .haltEnd => 6

/-- The slot a source names. -/
def Source.carOf : Source → Option CarIx
  | .carHeard i | .carInZone i _ | .carStill i => Option.some i
  | .none | .cycleEnd _ | .haltEnd => Option.none

/-- The zone a source names. -/
def Source.zoneOf : Source → Option (Fin 16)
  | .carInZone _ z => some z
  | .none | .cycleEnd _ | .carHeard _ | .carStill _ | .haltEnd => Option.none

/-- The slot of that number. -/
def carOfNat (n : Nat) : Option CarIx := if h : n < 48 then some ⟨n, h⟩ else none
def zoneOfNat (n : Nat) : Option (Fin 16) := if h : n < 16 then some ⟨n, h⟩ else none
def gateOfNat (n : Nat) : Option (Fin 8) := if h : n < 8 then some ⟨n, h⟩ else none

/-- Unit ids 0 and 16,777,215 are not valid (00, "Identities and numbering"). -/
def validUnit (u : Nat) : Bool := u != 0 && u != 16777215

/-! ## Frames (R165) -/

/-- One bit of the CRC-16 with polynomial 0x1021, most significant bit first. -/
def crc16Bit (c : BitVec 16) : BitVec 16 := if c.msb then (c <<< 1) ^^^ 0x1021#16 else c <<< 1

/-- One byte of the CRC-16. -/
def crc16Byte (c : BitVec 16) (b : Byte) : BitVec 16 :=
  Nat.repeat crc16Bit 8 (c ^^^ ((b.setWidth 16) <<< 8))

/-- The CRC-16 of a list of bytes, initial value 0xFFFF, no reflection, no final inversion (R165). -/
def crc16 (bs : List Byte) : BitVec 16 := bs.foldl crc16Byte 0xFFFF#16

/-- The bytes of a frame from the first length byte through the last payload byte. -/
def Frame.core (f : Frame) : List Byte := leBytes 2 (f.payload.length + 2) ++ b1 f.kind ++ b1 f.tag ++ f.payload

/-- A frame as it stands on the serial line: sync, length, kind, tag, payload, check (R165). -/
def Frame.bytes (f : Frame) : List Byte := 0xA5#8 :: (f.core ++ leBytes 2 (crc16 f.core).toNat)

/-- Bytes that a complete frame takes in the input buffer. -/
def Frame.size (f : Frame) : Nat := f.payload.length + 7

/-- The kind byte and payload of a notice (R170); its tag is 0 (R165). -/
def Notice.frame : Notice → Frame
  | .started warm rate latch causes =>
    { kind := 0x41, tag := 0, payload := b1 (if warm then 1 else 0) ++ b1 rate ++ flag latch ++ b1 causes.code }
  | .carJoin o car unit line =>
    { kind := 0x42, tag := 0,
      payload := b1 o.code ++ optBytes 1 (car.map (·.val)) ++ leBytes 3 unit ++ optBytes 1 (line.map lineCode) }
  | .joinAsk unit line => { kind := 0x43, tag := 0, payload := leBytes 3 unit ++ b1 (lineCode line) }
  | .carLost car unit cause => { kind := 0x44, tag := 0, payload := b1 car.val ++ leBytes 3 unit ++ b1 cause.code }
  | .carFound car unit line => { kind := 0x45, tag := 0, payload := b1 car.val ++ leBytes 3 unit ++ b1 (lineCode line) }
  | .capChange car kind value => { kind := 0x46, tag := 0, payload := b1 car.val ++ b1 kind.code ++ b1 value }
  | .textEnd car seq o => { kind := 0x47, tag := 0, payload := b1 car.val ++ b1 seq ++ b1 o.code }
  | .halt on causes => { kind := 0x48, tag := 0, payload := flag on ++ b1 causes.code }
  | .lineState line st => { kind := 0x49, tag := 0, payload := b1 (lineCode line) ++ b1 st.code }

/-- Result codes (R168). -/
inductive Code where
  | done | doneClamped | badKind | badLength | badArg | noCar | queueFull | lineBusy | lineFault | stopActive | tooLate
  deriving DecidableEq, Repr

def Code.num : Code → Nat
  | .done => 0
  | .doneClamped => 1
  | .badKind => 2
  | .badLength => 3
  | .badArg => 4
  | .noCar => 5
  | .queueFull => 6
  | .lineBusy => 7
  | .lineFault => 8
  | .stopActive => 9
  | .tooLate => 10

/-- DONE and DONE_CLAMPED: the request was taken. -/
def Code.taken : Code → Bool
  | .done | .doneClamped => true
  | .badKind | .badLength | .badArg | .noCar | .queueFull | .lineBusy | .lineFault | .stopActive | .tooLate => false

/-! ## Bits of a burst (R63) -/

/-- `k` in `n` bits, most significant bit first. -/
def toBits : Nat → Nat → Bits
  | 0, _ => []
  | n + 1, k => k.testBit n :: toBits n k

/-- The number that bits spell, most significant bit first. -/
def ofBits (bs : Bits) : Nat := bs.foldl (fun n b => 2 * n + b.toNat) 0

/-- One bit of the CRC-8 with polynomial x^8 + x^2 + x + 1. -/
def crc8Bit (c : BitVec 8) (b : Bool) : BitVec 8 :=
  if c.msb != b then (c <<< 1) ^^^ 0x07#8 else c <<< 1

/-- The CRC-8 of body bits in the order sent, initial value 0 (R63). -/
def crc8 (bs : Bits) : BitVec 8 := bs.foldl crc8Bit 0#8

/-- A burst without its preamble: the body and its check. -/
def withCheck (body : Bits) : Bits := body ++ toBits 8 (crc8 body).toNat

/-- The body of a received burst when the last eight bits are its check and the check is good. -/
def checkedBody (bits : Bits) : Option Bits :=
  let body := bits.take (bits.length - 8)
  if 8 ≤ bits.length ∧ toBits 8 (crc8 body).toNat = bits.drop (bits.length - 8) then some body else none

/-- The number in bits `at_` to `at_ + n - 1` of a body. -/
def bitField (body : Bits) (at_ n : Nat) : Nat := ofBits ((body.drop at_).take n)

/-! ## The controller's bursts (R65 to R68) -/

/-- The first 14 bits of a drive word as a number. -/
def DriveWord.upper14 (w : DriveWord) : Nat :=
  w.cap * 64 + w.seq * 8 + w.grant.level * 2 + (if w.release then 1 else 0)

/-- The drive word: its 14 bits, then the sum of their two 7-bit halves modulo 64 (R67). -/
def DriveWord.value (w : DriveWord) : Nat :=
  w.upper14 * 64 + (w.upper14 / 128 + w.upper14 % 128) % 64

/-- The body of a MARK (R65). -/
def markBody (X : LineId) (cycle : Nat) (p : Plan) (allStop joinOpen : Bool) : Bits :=
  toBits 3 0 ++ toBits 1 (lineCode X) ++ toBits 16 cycle ++ toBits 5 p.polls ++ toBits 5 p.commands ++ toBits 3 p.joins
    ++ toBits 7 p.slotLen ++ [allStop, joinOpen]

/-- The body of a POLL (R66). -/
def pollBody (address : Nat) (grant : Doze) (full : Bool) (word : Option DriveWord) : Bits :=
  toBits 3 1 ++ toBits 6 address ++ toBits 2 grant.level ++ [full, word.isSome]
    ++ (match word with | some w => toBits 20 w.value | none => [])

/-- The body of a COMMAND that carries a drive word (R68). -/
def driveBody (address : Nat) (w : DriveWord) : Bits := toBits 3 2 ++ toBits 6 address ++ toBits 2 0 ++ toBits 20 w.value

/-- The characters of fragment `k` of a text (R52). -/
def Text.fragment (t : Text) (k : Nat) : List Byte := (t.chars.drop (8 * k)).take 8

/-- The body of a COMMAND that carries the next fragment of a text (R68). -/
def textBody (address : Nat) (t : Text) : Bits :=
  toBits 3 2 ++ toBits 6 address ++ toBits 2 1 ++ toBits 2 t.seq ++ toBits 3 t.next ++ toBits 3 t.fragments
    ++ toBits 4 (t.fragment t.next).length ++ ((t.fragment t.next).map fun c => toBits 7 c.toNat).flatten

/-- The body of a COMMAND that carries an ASSIGN (R68). -/
def assignBody (a : Assign) : Bits :=
  toBits 3 2 ++ toBits 6 0 ++ toBits 2 2 ++ toBits 24 a.unitId
    ++ toBits 6 (match a.outcome with | .room n => n | .full => 0)

/-! ## The cars' bursts (R64, R69) -/

/-- The fields of a REPLY. -/
structure Reply where
  address  : Nat
  doze     : Doze
  speed    : Nat
  faults   : CarFaults
  echo     : Nat
  ackValid : Bool
  ackSeq   : Nat
  /-- battery and odometer, of a full reply -/
  extra    : Option (Nat × Nat)
  deriving DecidableEq, Repr

def dozeOfCode : Nat → Doze
  | 0 => .awake
  | 1 => .light
  | 2 => .deep
  | _ => .parked

def carFaultsOfCode : Nat → CarFaults
  | 0 => .none
  | 1 => .brake
  | 2 => .traction
  | _ => .both

/-- A received burst read as the REPLY kind that the poll asked for: none when the check is bad, the kind is another
or the size is wrong (R64). -/
def readReply (full : Bool) (bits : Bits) : Option Reply :=
  match checkedBody bits with
  | none => none
  | some b =>
    if b.length = (if full then 50 else 27) ∧ bitField b 0 3 = (if full then 4 else 3) then
      some
        { address := bitField b 3 6, doze := dozeOfCode (bitField b 9 2), speed := bitField b 11 8,
          faults := carFaultsOfCode (bitField b 19 2), echo := bitField b 21 3, ackValid := bitField b 24 1 == 1,
          ackSeq := bitField b 25 2, extra := if full then some (bitField b 27 7, bitField b 34 16) else none }
    else none

/-- A received burst read as a JOIN: its unit id (R64). -/
def readJoin (bits : Bits) : Option Nat :=
  match checkedBody bits with
  | none => none
  | some b => if b.length = 27 ∧ bitField b 0 3 = 5 then some (bitField b 3 24) else none

end Sys2Proof.Machine
end

