-- ==== Sys2Proof/Machine/Ranging.lean ====
section
/-! DEFINITION. The ranging unit and the position arithmetic: the reply window, the capture, the classing of a poll slot,
raw and measured distance, position, direction and growth (R35, R98 to R114). -/

namespace Sys2Proof.Machine

/-! ## The reply window (R35) -/

/-- Round-trip ticks of the line's length. -/
def LineParams.tmax (p : LineParams) : Nat :=
  (p.length * 1000000 + p.vf * Config.tickConstant - 1) / (p.vf * Config.tickConstant)

/-- First effective count of the window: the mode's start, or the turnaround guard when that is larger. -/
def LineParams.windowStart (p : LineParams) (c : Ctx) : Nat :=
  max p.guardTicks (match c.mode with
    | .narrow => c.centre - p.halfWidth
    | .wide => Config.replyLatency + p.latency)

/-- Last effective count of the window, held at 32,767. -/
def LineParams.windowEnd (p : LineParams) (c : Ctx) : Nat :=
  min Config.captureStop (match c.mode with
    | .narrow => c.centre + p.halfWidth
    | .wide => Config.replyLatency + p.latency + p.tmax + p.halfWidth)

/-! ## The capture counter (R98) -/

/-- The capture counter when it has counted `ticks` from its start: the 13-bit count and the overflow count, stopped at
8,191 and 3. -/
def captureReading (ticks : Nat) : Nat × Nat :=
  let t := min ticks Config.captureStop
  (t % Config.captureSpan, t / Config.captureSpan)

/-- The effective count of a capture (R105). -/
def effectiveCount (count overflow : Nat) : Nat := Config.captureSpan * overflow + count

/-- One tick of the ranging clock at a ranging unit (R98, R99). -/
def Ranging.tick (r : Ranging) : Ranging :=
  let next := captureReading (effectiveCount r.count r.overflow + 1)
  let r := if r.running then { r with count := next.1, overflow := next.2 } else r
  if r.widthRunning then { r with width := satAdd1 Config.widthStop r.width } else r

/-! ## Classing (R100 to R103) -/

/-- A width lies within the line's width tolerance of the expected one (R70, R101). -/
def LineParams.widthOk (p : LineParams) (expected width : Nat) : Bool :=
  decide (width ≤ expected + p.widthTol) && decide (expected ≤ width + p.widthTol)

/-- The expected width of the reply a poll asked for (R34, R101). -/
def expectedWidth (full : Bool) : Nat := if full then Config.fullWidth else Config.shortWidth

inductive SlotClass where
  | noResult
  | miss (reason : MissReason)
  | valid (count overflow level : Nat) (reply : Reply)
  deriving DecidableEq, Repr

/-- The class of a poll slot: the first test of R100 that holds. `width` and `bits` are those of the captured burst, as
having ended at the slot end when it is still in progress (R36). -/
def classify (p : LineParams) (q : PollSlot) (r : Ranging) (width : Nat) (bits : Bits) : SlotClass :=
  match q.fate with
  | .gone => .noResult
  | .rejoined => .miss .noEdge
  | .served =>
    match r.captured with
    | none => .miss .noEdge
    | some (count, overflow) =>
      if !p.widthOk (expectedWidth q.full) width then .miss .clash
      else
        match readReply q.full bits with
        | none => .miss .garbled
        | some reply =>
          if reply.address ≠ airAddress q.car then .miss .clash
          else if 2 ≤ overflow then .miss .far
          else if r.level.getD 0 < 4 then .miss .faint
          else .valid count overflow (r.level.getD 0) reply

/-! ## Distance (R105, R106) -/

/-- The raw distance of an effective count and its at-end flag. -/
def LineParams.rawDistance (p : LineParams) (count : Nat) : Nat × Bool :=
  let t := count - Config.replyLatency - p.latency
  let d := (t * p.vf * Config.tickConstant + 500000) / 1000000
  (min d p.length, decide (p.length < d))

/-- The middle value of three. -/
def median3 (a b c : Nat) : Nat := max (min a b) (min (max a b) c)

/-- The measured distance of a range history, whose last entry is the reply's own (R107). -/
def measured (history : List Nat) (latest : Nat) : Nat :=
  match history with
  | [a, b, c] => median3 a b c
  | _ => latest

/-! ## Position and direction (R108, R114) -/

/-- The signed measured position (R108). -/
def signedPlace (X : LineId) (m : Nat) : Int :=
  match X with
  | .A => -(m : Int)
  | .B => m

/-- The new position: restarted at `P`, or moved toward it by the quotient truncated toward zero (R108). -/
def LineParams.newPlace (p : LineParams) (X : LineId) (old : Option Position) (P : Int) : Int :=
  match old with
  | none => P
  | some o =>
    if o.line ≠ X ∨ p.length < o.dm.natAbs then P
    else o.dm + (P - o.dm).tdiv (2 ^ p.shift)

/-- The direction after a reply (R114). -/
def newDirection (motion : Nat) (old : Direction) (speed : Nat) (before : Option Position) (after : Int) (atEnd : Bool) :
    Direction :=
  if speed = 0 then .still
  else
    match before with
    | none => old
    | some o =>
      if atEnd then old
      else if (motion : Int) ≤ after - o.dm then .pos
      else if (motion : Int) ≤ o.dm - after then .neg
      else old

/-! ## Growth (R112, R113) -/

/-- Slots of a cycle (02, "The plan"). -/
def Plan.slots (p : Plan) : Nat := 1 + p.polls + p.commands + p.joins

/-- The growth of an unheard car's uncertainty at a cycle end of a line (R112). -/
def Engine.growth (e : Engine) : Nat := (5 * e.params.vmax * e.plan.slots * e.plan.slotLen + 99999) / 100000

/-- Granted DEEP or PARKED, and last reported speed 0 (R112, R113). -/
def Car.dozingStationary (c : Car) : Bool := c.grantedDoze.isDeep && c.speed == 0

/-- A car at a cycle end of its counting line: it grows unless heard or dozing-stationary, and its heard mark is cleared. -/
def Car.atCycleEnd (g : Nat) (c : Car) : Car :=
  { c with
    uncertainty :=
      if c.heardMark || c.dozingStationary then c.uncertainty
      else min Config.maxUncertainty (c.uncertainty + g)
    heardMark := false }

/-- The uncertainty growth of a cycle end of line `X` (R111, R112). -/
def State.growUncertainty (s : State) (X : LineId) : State :=
  let g := (s.eng X).growth
  { s with
    cars := s.cars.map fun c => if c.present && c.home.countingLine == X then c.atCycleEnd g else c }

end Sys2Proof.Machine
end

