-- ==== Sys2Proof/Machine/Roster.lean ====
section
/-! DEFINITION. The roster: a car's leaving, its home, poll generation, misses and lapses, admission and joining
(R1 to R17, R72 to R80). -/

namespace Sys2Proof.Machine

/-! ## Leaving the roster (R17, R94, R145) -/

/-- A poll slot in progress of car `i` takes note that the car is gone or re-admitted (R18, R94). -/
def State.markPoll (s : State) (i : CarIx) (fate : PollFate) : State :=
  let mark (s : State) (X : LineId) : State :=
    match (s.eng X).poll with
    | some q =>
      if q.car = i ∧ q.fate ≠ .gone then s.modEng X fun e => { e with poll := some { q with fate := fate } } else s
    | none => s
  mark (mark s .A) .B

/-- The seqs of a car's texts in the queue or awaiting acknowledgement, in the car's text order (R17, R47). -/
def State.textOrder (s : State) (i : CarIx) : List Nat :=
  let awaited := match (s.car i).textAwait with
    | some w => [(w.stamp, w.seq)]
    | none => []
  let insert (l : List (Nat × Nat)) (x : Nat × Nat) : List (Nat × Nat) :=
    l.takeWhile (fun y => decide (y.1 ≤ x.1)) ++ x :: l.dropWhile fun y => decide (y.1 ≤ x.1)
  (((s.textsOf i).map fun t => (t.stamp, t.seq)).foldl insert awaited).map (·.2)

/-- The car of a held entry. -/
def Held.carOf : Held → CarIx
  | .text i _ | .cap i _ => i

/-- The seqs of a car's held TEXTs, by gate and hold-list order (R17). -/
def State.heldTexts (s : State) (i : CarIx) : List Nat :=
  (s.gates.toList.map fun g => g.hold.filterMap fun h => match h with
    | .text j t => if j == i then some t.seq else none
    | .cap .. => none).flatten

/-- A gate when car `i` leaves the roster (R145). -/
def Gate.without (i : CarIx) (g : Gate) : Gate :=
  { g with
    hold := g.hold.filter fun h => h.carOf != i
    source := if g.source.carOf = some i then .none else g.source }

/-- The removal of a car (R17): queue entries, texts, held entries, contexts, record, then the gap evaluation. `cancel`
queues a TEXT_END cancelled for each of its texts. A seat that empties with a removed TEXT is not judged as a break event
(R152; DESIGN CHOICE, log 30). -/
def State.removeCar (s : State) (i : CarIx) (cancel : Bool) : State :=
  let ended := if cancel then s.textOrder i ++ s.heldTexts i else []
  let s := s.dropEntries fun e => e.job.carOf == some i || e.isRoomOf i
  let s := ended.foldl (fun s seq => s.notify (.textEnd i seq .cancelled)) s
  let s := { s with gates := s.gates.map (Gate.without i) }
  let s := s.forgetContexts i
  let s := s.markPoll i .gone
  (s.setCar i Car.free).evaluateGaps

/-- A JOINING car lapses (R7). -/
def State.lapse (s : State) (i : CarIx) : State :=
  (s.notify (.carJoin .lapsed (some i) (s.car i).unitId none)).removeCar i false

/-! ## Home (R8, R9) -/

/-- What R9 does on a line that the home no longer includes; the context has been dealt with. -/
def State.leaveLine (s : State) (i : CarIx) (X : LineId) : State := s.unseat X fun j => j == i

/-- The car has become homed on line `X`: a break event, and its entries are judged there (R9, R152). -/
def State.homedOn (s : State) (i : CarIx) (X : LineId) : State := (s.breakLine X).judgeLine (Entry.isCommandOf i) X

/-- A change of a car's home (R9). -/
def State.changeHome (s : State) (i : CarIx) (new : Home) : State :=
  let old := (s.car i).home
  if old = new then s
  else
    let s := s.modCar i fun c => { c with home := new }
    let leave (s : State) (X : LineId) : State :=
      if old.includes X && !new.includes X then (s.releaseContext X i).leaveLine i X else s
    let enter (s : State) (X : LineId) : State :=
      if new.includes X && !old.includes X then s.homedOn i X else s
    enter (enter (leave (leave s .A) .B) .A) .B

/-- The home for a position (R8). -/
def State.homeAt (s : State) (p : Position) : Home :=
  if s.inService .A && s.inService .B then
    if p.dm < -(s.way.radius : Int) then .a
    else if p.dm ≤ (s.way.radius : Int) then .both
    else .b
  else homeOf p.line

/-! ## Poll generation (R12, R13) -/

/-- The poll interval by state and grant (R13). -/
def Car.pollInterval (c : Car) : Nat :=
  match c.state with
  | .joining | .missing => 1
  | .lost => 4
  | .heard => c.grantedDoze.interval
  | .free => 1

/-- One car at a cycle start of its counting line (R12). -/
def State.duePoll (s : State) (i : CarIx) : State :=
  let c := s.car i
  if s.hasPoll i then s
  else if c.countdown = 0 then
    (s.putTail c.pollLevel { job := .poll i, engaged := none }).modCar i fun c =>
      { c with countdown := c.pollInterval - 1 }
  else s.modCar i fun c => { c with countdown := c.countdown - 1 }

/-- The roster at a cycle start of line `X` (R12); the manual gives the cars no order (log 4). -/
def State.generatePolls (s : State) (X : LineId) : State :=
  let r := s.inSomeOrder (allCars.filter fun i => (s.car i).present && (s.car i).home.countingLine == X)
  r.1.foldl (fun s i => s.duePoll i) r.2

/-- The ask list at a cycle start of line `X` (R75). -/
def State.countAsks (s : State) (X : LineId) : State :=
  let counted := s.asks.map fun a => if a.line = X then { a with cyclesLeft := a.cyclesLeft - 1 } else a
  let out := counted.filter fun a => decide (a.line = X ∧ a.cyclesLeft = 0)
  out.foldl (fun s a => s.notify (.carJoin .timedOut none a.unitId (some a.line)))
    { s with asks := counted.filter fun a => !decide (a.line = X ∧ a.cyclesLeft = 0) }

/-! ## Misses (R6) and departures (R10) -/

/-- The counts of a miss (R6). -/
def Car.countMiss (c : Car) (reason : MissReason) : Car :=
  { c with
    clashCount := if reason = .clash then satAdd1 255 c.clashCount else c.clashCount
    missCount := satAdd1 255 c.missCount }

/-- The roster takes a miss of a car polled on line `X` (R6, R7). -/
def State.takeMiss (s : State) (X : LineId) (i : CarIx) (reason : MissReason) : State :=
  let s := s.modCar i fun c => c.countMiss reason
  let lost := decide ((s.eng X).params.lostLimit ≤ (s.car i).missCount)
  match (s.car i).state, lost with
  | .joining, true => s.lapse i
  | .heard, true | .missing, true =>
    (s.modCar i fun c => { c with state := .lost }).notify (.carLost i (s.car i).unitId .misses)
  | .heard, false => s.modCar i fun c => { c with state := .missing }
  | .joining, false | .missing, false | .lost, _ | .free, _ => s

/-- What a departure of line `X` does to one car (R10). -/
def State.lineDown (s : State) (X : LineId) (i : CarIx) : State :=
  let c := s.car i
  if !c.present then s
  else if c.home = homeOf X then
    if c.state = .joining then s.lapse i
    else
      let s := s.modCar i fun c => { c with state := .lost, uncertainty := Config.maxUncertainty }
      if c.state = .lost then s else s.notify (.carLost i c.unitId .lineDown)
  else if c.home = .both && s.inService (otherLine X) then s.changeHome i (homeOf (otherLine X))
  else s

/-! ## Admission and joining (R2, R3, R72 to R77) -/

/-- Unit `u` fills FREE slot `i` on line `X` (R2). -/
def State.fillSlot (s : State) (i : CarIx) (u : Nat) (X : LineId) : State :=
  ((s.setCar i (Car.admitted u X)).homedOn i X).offerAssign
    { unitId := u, line := X, outcome := .room (airAddress i) }

/-- Admission of unit `u` on line `X`: the lowest FREE slot, or FULL (R73). The slot is none when there was none. -/
def State.admitUnit (s : State) (u : Nat) (X : LineId) : State × Option CarIx :=
  match s.lowestFree with
  | some i =>
    let s : State := { s with asks := s.asks.filter fun a => a.unitId != u }
    (s.fillSlot i u X, some i)
  | none =>
    ((s.offerAssign { unitId := u, line := X, outcome := .full }).notify (.carJoin .full none u (some X)), none)

/-- The fields of a record at re-admission on line `X` (R3, R111, R123, R163); the others are kept (DEDUCED, log 10). -/
def Car.readmitted (X : LineId) (c : Car) : Car :=
  { c with
    state := .joining, joinLine := X, home := homeOf X, position := none, uncertainty := Config.maxUncertainty,
    direction := .still, speed := 0, requestedDoze := .awake, grantedDoze := .awake, lightRun := 0,
    listening := false, missCount := 0, countdown := 0, parkedA := none, parkedB := none, driveSeqSent := 0,
    capSent := 0, confirmedCap := 0, heardMark := false, touch := [],
    release := if c.release = .sent then .owed else c.release }

/-- Re-admission of the car in slot `i` on line `X` (R3, R72 case 3). -/
def State.readmit (s : State) (i : CarIx) (X : LineId) : State :=
  let old := (s.car i).home
  let s := s.forgetContexts i
  let s := s.modCar i (Car.readmitted X)
  let s := if old.includes (otherLine X) then s.leaveLine i (otherLine X) else s
  let s := s.markPoll i .rejoined
  (s.homedOn i X).offerAssign { unitId := (s.car i).unitId, line := X, outcome := .room (airAddress i) }

/-- The joining logic takes a join from unit `u` heard on line `X` (R72 to R74). -/
def State.takeJoin (s : State) (u : Nat) (X : LineId) : State :=
  let holder := s.carOfUnit u
  if !validUnit u then s
  else if s.assignBlocked u && (holder.isSome || s.admission == .opened) then s
  else
    match holder with
    | some i => s.readmit i X
    | none =>
      match s.admission with
      | .opened => (s.admitUnit u X).1
      | .closed =>
        if s.asks.any (fun a => a.unitId == u) || decide (Config.askPlaces ≤ s.asks.length) then s
        else
          let s : State := { s with asks := s.asks ++ [{ unitId := u, line := X, cyclesLeft := s.way.askTimeout }] }
          s.notify (.joinAsk u X)

/-- A join is heard in a join slot of line `X`: a break event and traffic of the cycle, whatever becomes of it (R40, R72,
R152). -/
def State.hearJoin (s : State) (u : Nat) (X : LineId) : State :=
  ((s.modEng X fun e => { e with traffic := true }).breakLine X).takeJoin u X

end Sys2Proof.Machine
end

