-- ==== Sys2Proof/Machine/Replies.lean ====
section
/-! DEFINITION. A valid reply, in the order in which its updates read one another (R4, R104, R148; DEDUCED, log 5): the context, the
report and the state, the position, the home, the drive and text confirmations, the zones, the release, the listening
flag, the gates, the grant and the countdown. -/

namespace Sys2Proof.Machine

/-- The report fields of a valid reply (R5), the state and the miss count (R4). -/
def Car.report (r : Reply) (c : Car) : Car :=
  { c with
    state := .heard
    missCount := 0
    speed := r.speed
    requestedDoze := r.doze
    carFaults := some r.faults
    battery := match r.extra with
      | some x => some (min 100 x.1)
      | none => c.battery
    odometer := match r.extra with
      | some x => some x.2
      | none => c.odometer
    pollsSinceFull := match r.extra with
      | some _ => 0
      | none => satAdd1 255 c.pollsSinceFull }

/-- The roster takes the report of a valid reply on line `X`, with the notice of the state's change (R4, R5). -/
def State.takeReport (s : State) (X : LineId) (i : CarIx) (r : Reply) : State :=
  let c := s.car i
  let s := s.modCar i (Car.report r)
  match c.state with
  | .joining => s.notify (.carJoin .admitted (some i) c.unitId (some X))
  | .lost => s.notify (.carFound i c.unitId X)
  | .heard | .missing | .free => s

/-- Position, position line, uncertainty, direction and heard mark (R108, R110, R111, R114). -/
def State.locate (s : State) (X : LineId) (i : CarIx) (m : Nat) (atEnd : Bool) : State :=
  let p := (s.eng X).params
  s.modCar i fun c =>
    let place := p.newPlace X c.position (signedPlace X m)
    { c with
      position := some { dm := place, line := X }
      uncertainty := p.rangeTol
      direction := newDirection s.way.motion c.direction c.speed c.position place atEnd
      heardMark := true }

/-- The home is recomputed from the new position (R8). -/
def State.rehome (s : State) (i : CarIx) : State :=
  match (s.car i).position with
  | some p => s.changeHome i (s.homeAt p)
  | none => s

/-- Drive confirmation (R56). -/
def State.confirmDrive (s : State) (i : CarIx) (echo : Nat) : State :=
  let c := s.car i
  if echo = c.driveSeqSent then s.modCar i fun c => { c with confirmedCap := c.capSent }
  else if c.confirmedCap = c.effectiveCap then s
  else s.ensureDrive i false

/-- The TEXT that goes back into the queue for a retry (R57). -/
def TextAwait.retry (w : TextAwait) : Text :=
  { level := w.level, chars := w.chars, next := 0, budget := w.budget - 1, seq := w.seq, seat := none, stamp := w.stamp }

/-- Text acknowledgement (R57). The end of a text is not judged as a break event for the car's next TEXT (R152; DESIGN
CHOICE, log 30). -/
def State.acknowledge (s : State) (i : CarIx) (r : Reply) : State :=
  match (s.car i).textAwait with
  | none => s
  | some w =>
    let clear (s : State) : State := s.modCar i fun c => { c with textAwait := none }
    if r.ackValid ∧ r.ackSeq = w.seq then (clear s).notify (.textEnd i w.seq .delivered)
    else if w.waited + 1 < 3 then
      s.modCar i fun c => { c with textAwait := some { w with waited := w.waited + 1 } }
    else if 0 < w.budget then (clear s).queueText .head i w.retry
    else (clear s).notify (.textEnd i w.seq .failed)

/-- The release state at a valid reply, after drive confirmation (R163). -/
def State.checkRelease (s : State) (i : CarIx) (echo : Nat) : State :=
  let c := s.car i
  match c.release with
  | .none => s
  | .sent =>
    if echo = c.driveSeqSent then s.modCar i fun c => { c with release := .none } else s.ensureDrive i true
  | .owed => s.ensureDrive i true

/-- The ceiling of a grant (R148). -/
def State.dozeCeiling (s : State) (i : CarIx) : Doze :=
  let c := s.car i
  if 0 < c.speed ∨ s.hasText i ∨ s.entries.any (Entry.isRoomOf i) ∨ c.gapCap.isSome ∨ c.confirmedCap ≠ c.effectiveCap then
    .awake
  else if s.halt.latch then .light
  else .parked

/-- The grant for a target (R149): DEEP and PARKED need a light run of at least the deep delay. -/
def grantFor (target : Doze) (lightRun deepDelay : Nat) : Doze :=
  if target.isDeep && decide (lightRun < deepDelay) then .light else target

/-- Grant resolution at a valid reply on line `X`; `lightRun` is the light run as it stood before the reply (R148, R149,
R152). -/
def State.resolveGrant (s : State) (X : LineId) (i : CarIx) (lightRun : Nat) : State :=
  let target := (s.car i).requestedDoze.shallower (s.dozeCeiling i)
  let grant := grantFor target lightRun (s.eng X).params.deepDelay
  let s := s.modCar i fun c =>
    { c with grantedDoze := grant, lightRun := if grant = .awake then 0 else satAdd1 15 lightRun }
  if grant.isDeep then s else s.breakHome (s.car i).home

/-- A valid reply of the car polled by `q` on line `X`, captured at (`count`, `overflow`) with level `level` (R4, R104). -/
def State.takeReply (s : State) (X : LineId) (q : PollSlot) (count overflow level : Nat) (r : Reply) : State :=
  let i := q.car
  let before := s.car i
  let e := effectiveCount count overflow
  let d := (s.eng X).params.rawDistance e
  let s := s.modContextOf X i fun c => c.afterValid e d.1 level
  let history := match (s.eng X).contextOf i with
    | some k => (s.context X k).history
    | none => []
  let s := s.takeReport X i r
  let s := s.locate X i (measured history d.1) d.2
  let s := s.rehome i
  let s := s.confirmDrive i r.echo
  let s := if before.state = .joining then s.ensureDrive i true else s
  let s := s.acknowledge i r
  let s := s.evaluateZones i
  let s := s.checkRelease i r.echo
  let s := if q.grant = .awake then s.startListening i else s
  let s := s.sourceEvent (.carHeard i)
  let s := if 0 < before.speed ∧ r.speed = 0 then s.sourceEvent (.carStill i) else s
  let s := s.resolveGrant X i before.lightRun
  s.modCar i fun c => { c with countdown := q.grant.interval - 1 }

end Sys2Proof.Machine
end

