-- ==== Sys2Proof/Machine/Lines.lean ====
section
/-! DEFINITION. The line engines' cycle: cycle ends and starts, the abandoning of a slot, halt cycle restarts, departures
and the setting of the halt latch (R24 to R40, R153, R154, R158 to R161). -/

namespace Sys2Proof.Machine

/-! ## Abandoning a slot (R39, R59) -/

/-- The line's slot in progress is abandoned: its burst is cut, its POLL goes back to the head of its level, its entries
are disengaged, its captures and measurements are discarded. That a DRIVE or ASSIGN so disengaged is not judged as a break
event of the other line, for which it may have become eligible, is the model's (R152; DESIGN CHOICE, log 30). -/
def State.abandonSlot (s : State) (X : LineId) : State :=
  ((s.returnPoll X).disengage X).modEng X fun e =>
    { e with burst := none, poll := none, ranging := Ranging.idle, joinRx := none, listening := false }

/-! ## The cycle end (R31, R40, R129, R142) -/

/-- The idle counter at a cycle end (R40). -/
def Engine.countIdle (e : Engine) : Engine := { e with idle := if e.traffic then 0 else satAdd1 255 e.idle }

/-- The cycle-end effects of R31, which are not ordered among themselves. -/
inductive EndEffect where
  | growth | evaluation | gates | idle
  deriving DecidableEq, Repr

def State.endEffect (s : State) (X : LineId) : EndEffect → State
  | .growth => s.growUncertainty X
  | .evaluation => s.evaluateGaps
  | .gates => s.sourceEvent (.cycleEnd X)
  | .idle => s.modEng X Engine.countIdle

/-- The cycle end of line `X`: every effect once, in an order the manual leaves open (log 4). -/
def State.endCycle (s : State) (X : LineId) : State :=
  let r := s.inSomeOrder [EndEffect.growth, .evaluation, .gates, .idle]
  r.1.foldl (fun s e => s.endEffect X e) r.2

/-! ## The cycle start (R31, R33, R153) -/

/-- How a cycle start comes about: after a cycle end, at a LINE_START, or at a halt cycle restart (R31). -/
inductive StartKind where
  | afterEnd | lineStart | haltRestart
  deriving DecidableEq, Repr

/-- The line's state becomes `st`, with its LINE_STATE notice when that is a change (R28). -/
def State.changeLineState (s : State) (X : LineId) (st : LineState) : State :=
  if (s.eng X).state = st then s
  else (s.modEng X fun e => { e with state := st }).notify (.lineState X st)

/-- The entry conditions of QUIET (R154). -/
def State.mayGoQuiet (s : State) (X : LineId) : Bool :=
  !s.halt.latch
    && allCars.all (fun i => !((s.car i).present && (s.car i).home.includes X) || (s.car i).grantedDoze.isDeep)
    && decide ((s.eng X).params.quietLimit ≤ (s.eng X).idle)
    && !s.asks.any fun a => a.line == X

/-- The line state that a cycle start resolves (R153): no resolution at a LINE_START, and RUN at a halt restart. -/
def State.resolvedState (s : State) (X : LineId) (k : StartKind) : LineState :=
  match k with
  | .lineStart | .haltRestart => .run
  | .afterEnd =>
    match (s.eng X).state, (s.eng X).breakPending with
    | .run, false => if s.mayGoQuiet X then .quiet else .run
    | .quiet, true => .run
    | st, _ => st

/-- Join-open of the cycle that starts: no at a halt cycle restart (R161), also when a RESUME has cleared the latch before a
restart pending is taken (R162 read so: DEDUCED, log 13), and by R33 at every other cycle start. -/
def State.joinOpenFor (s : State) (X : LineId) (k : StartKind) : Bool :=
  let e := s.eng X
  match k with
  | .haltRestart => false
  | .afterEnd | .lineStart =>
    decide (0 < e.plan.joins) && !s.halt.latch
      && (e.state == .run || (e.state == .quiet && e.cycle % 8 == 0))

/-- The ticks of one slot of a plan, and of its cycle (R31). -/
def Plan.slotTicks (p : Plan) : Nat := p.slotLen * Config.ticksPerSlotUnit
def Plan.cycleTicks (p : Plan) : Nat := p.slots * p.slotTicks

/-- The mark slot begins and the MARK is on its way (R33, R65). -/
def Engine.beginMark (X : LineId) (allStop : Bool) (e : Engine) : Engine :=
  { e with
    slot := .mark
    slotOver := false
    burst := some { kind := .mark, bits := withCheck (markBody X e.cycle e.plan allStop e.joinOpen) } }

/-- The engine's own steps at its cycle start, in the order of R31. -/
def State.startEngine (s : State) (X : LineId) (k : StartKind) : State :=
  let s := s.modEng X fun e => { e with plan := e.staged.getD e.plan, staged := none }
  let s := s.modEng X fun e => { e with cycle := (e.cycle + 1) % 65536 }
  let s := s.changeLineState X (s.resolvedState X k)
  let s := s.modEng X fun e => { e with breakPending := false }
  let joinOpen := s.joinOpenFor X k
  s.modEng X fun e =>
    { e with
      joinOpen := joinOpen, traffic := false, cycleTimer := e.plan.cycleTicks, slotTimer := e.plan.slotTicks }
    |>.beginMark X s.halt.latch

/-- The effects of a cycle start: the engine's steps, and those of the roster and of the ask list, which are not ordered
among them (R31). -/
inductive StartEffect where
  | engine | polls | asks
  deriving DecidableEq, Repr

def State.startEffect (s : State) (X : LineId) (k : StartKind) : StartEffect → State
  | .engine => s.startEngine X k
  | .polls => s.generatePolls X
  | .asks => s.countAsks X

/-- The cycle start of line `X` (R31, log 4). -/
def State.startCycle (s : State) (X : LineId) (k : StartKind) : State :=
  let r := s.inSomeOrder [StartEffect.engine, .polls, .asks]
  r.1.foldl (fun s e => s.startEffect X k e) r.2

/-- A halt cycle restart: the slot is abandoned if it is still in progress, a cycle end, and a cycle start in RUN
(R32, R161). -/
def State.restartCycle (s : State) (X : LineId) : State :=
  let s := (s.abandonSlot X).modEng X fun e => { e with restartPending := false }
  (s.endCycle X).startCycle X .haltRestart

/-! ## Departures (R10, R25 to R27) -/

/-- What the engine holds once its line has left service (R27). -/
def Engine.departed (e : Engine) : Engine :=
  { e with
    idle := 0, slot := .none, slotOver := false, joinOpen := false, traffic := false, restartPending := false,
    breakPending := false, cycleTimer := 0, slotTimer := 0 }

/-- Line `X` leaves RUN or QUIET for `st`: the slot is abandoned, the notice, the contexts, the text seat, then the cars,
whose notices come in ascending slot order (R27, R10); each car is taken whole before the next (DEDUCED, log 17). -/
def State.depart (s : State) (X : LineId) (st : LineState) : State :=
  let s := s.abandonSlot X
  let s := (s.modEng X Engine.departed).changeLineState X st
  let s := s.freeAllContexts X
  let s := s.unseat X fun _ => true
  allCars.foldl (fun s i => s.lineDown X i) s

/-! ## The halt latch (R158 to R161) -/

/-- A burst that the setting of the latch cuts: a mark, a COMMAND, or a POLL with a drive word (R160). -/
def Burst.cutByHalt (b : Burst) : Bool :=
  match b.kind with
  | .poll none => false
  | .mark | .poll (some _) | .drive _ | .text | .assign => true

/-- A line in service stops at the setting of the latch (R160). A line that stops at once while a restart is pending from an
earlier setting is restarted once, at this event, and the restart pending is gone (DESIGN CHOICE, log 28). -/
def State.stopLine (s : State) (X : LineId) : State :=
  let e := s.eng X
  if !e.state.inService then s
  else if s.halt.mode = .immediate ∨ (e.burst.any Burst.cutByHalt) then s.restartCycle X
  else s.modEng X fun e => { e with restartPending := true, joinRx := none, listening := false }

/-- The two causes (R158). -/
inductive HaltCause where
  | pin | request
  deriving DecidableEq, Repr

def Halt.withCause (h : Halt) : HaltCause → Halt
  | .pin => { h with pin := true }
  | .request => { h with request := true }

/-- A cause is set (R158): when the latch was clear it becomes set, with its notice, the unseating of both text seats and
the stop of each line in service, in an order that does not matter to the manual (R161, log 4). -/
def State.setCause (s : State) (c : HaltCause) : State :=
  let s1 : State := { s with halt := s.halt.withCause c }
  if s.halt.latch then s1
  else
    let s : State := { s1 with halt := { s1.halt with latch := true } }
    let s := s.notify (.halt true (match c with | .pin => .pin | .request => .request))
    let s := (s.unseat .A fun _ => true).unseat .B fun _ => true
    let r := s.inSomeOrder [LineId.A, .B]
    r.1.foldl (fun s X => s.stopLine X) r.2

end Sys2Proof.Machine
end

