-- ==== Sys2Proof/Machine/Slots.lean ====
section
/-! DEFINITION. The air events: slot starts and ends, the completion of the engine's bursts, and what a line receives
(R31 to R38, R50 to R55, R86, R87, R99). -/

namespace Sys2Proof.Machine

/-! ## The order of the slots (R29, 02 "The plan") -/

def Plan.afterCommands (p : Plan) : Option AirSlot := if 0 < p.joins then some (.join 1) else none

def Plan.afterPolls (p : Plan) : Option AirSlot := if 0 < p.commands then some (.command 1) else p.afterCommands

/-- The slot that follows one in the cycle; none when the cycle ends with it. -/
def Plan.slotAfter (p : Plan) : AirSlot → Option AirSlot
  | .none => none
  | .mark => if 0 < p.polls then some (.poll 1) else p.afterPolls
  | .poll k => if k < p.polls then some (.poll (k + 1)) else p.afterPolls
  | .command k => if k < p.commands then some (.command (k + 1)) else p.afterCommands
  | .join k => if k < p.joins then some (.join (k + 1)) else none

/-- The slot in progress can end with the next event of the slot timer: a poll or join slot has had its own end. -/
def Engine.slotDone (e : Engine) : Bool :=
  match e.slot with
  | .none => false
  | .mark | .command _ => true
  | .poll _ | .join _ => e.slotOver

/-- The slot that the slot timer's next expiry begins, if it begins one: the line is in service and its slot is done. -/
def State.nextSlot (s : State) (X : LineId) : Option AirSlot :=
  let e := s.eng X
  if e.state.inService && e.slotDone then e.plan.slotAfter e.slot else none

/-- The cycle timer of line `X` can expire: the last slot of the cycle is done. -/
def State.cycleDone (s : State) (X : LineId) : Bool :=
  let e := s.eng X
  e.state.inService && e.slotDone && (e.plan.slotAfter e.slot).isNone

/-! ## Completion of the engine's bursts (R39, R52 to R55, R151) -/

/-- The burst of line `X` is over. -/
def State.clearBurst (s : State) (X : LineId) : State := s.modEng X fun e => { e with burst := none }

/-- The cycle of line `X` has carried something that keeps it from being idle (R40). -/
def State.noteTraffic (s : State) (X : LineId) : State := s.modEng X fun e => { e with traffic := true }

/-- The car whose DRIVE engine `X` has engaged. -/
def State.driveEngaged (s : State) (X : LineId) : Option CarIx :=
  (s.entries.find? fun e => e.engaged == some X && match e.job with
    | .drive _ => true
    | _ => false).bind fun e => e.job.carOf

/-- A drive word of engine `X` has been sent (R53, R163). Nothing changes when its entry is gone (R18). -/
def State.wordSent (s : State) (X : LineId) (w : DriveWord) : State :=
  match s.driveEngaged X with
  | none => s
  | some i =>
    let s := s.dropEntries fun e => e.engaged == some X && e.isDriveOf i
    let s := s.modCar i fun c =>
      { c with driveSeqSent := w.seq, capSent := w.cap, release := if w.release then .sent else c.release }
    if (s.car i).effectiveCap = w.cap then s else s.ensureDrive i false

/-- The TEXT that engine `X` has engaged, with its car. -/
def State.textEngaged (s : State) (X : LineId) : Option (CarIx × Text) :=
  (s.engagedBy X fun e => e.textOf.isSome).bind Entry.textOf

/-- A text fragment of engine `X` has been sent (R52). It is not counted when its TEXT has been unseated, and changes
nothing when its TEXT is gone (R18, R39). Neither the entry disengaged here nor a seat emptied is judged as a break event
(R152; DESIGN CHOICE, log 30). -/
def State.fragmentSent (s : State) (X : LineId) : State :=
  match s.textEngaged X with
  | none => s
  | some (i, t) =>
    if t.seat ≠ some X then s.disengage X
    else if t.next + 1 = t.fragments then
      let w : TextAwait :=
        { seq := t.seq, waited := 0, budget := t.budget, level := t.level, chars := t.chars, stamp := t.stamp }
      (s.dropEntries fun e => e.engaged == some X && e.isTextAt i t.stamp).modCar i fun c => { c with textAwait := some w }
    else
      (s.mapEntries fun e =>
        if e.isTextAt i t.stamp then { e with job := .text i { t with next := t.next + 1 } } else e).disengage X

/-- An ASSIGN of engine `X` has been sent (R55). -/
def State.assignSent (s : State) (X : LineId) : State := s.dropEntries fun e => e.engaged == some X && e.isAssign

/-- The MARK of line `X` has gone out (R156). -/
def State.markDone (s : State) (X : LineId) : State := s.clearBurst X

/-- The COMMAND with a drive word has gone out (R53). -/
def State.driveDone (s : State) (X : LineId) (w : DriveWord) : State := ((s.clearBurst X).noteTraffic X).wordSent X w

/-- The COMMAND with a text fragment has gone out (R52). -/
def State.textDone (s : State) (X : LineId) : State := ((s.clearBurst X).noteTraffic X).fragmentSent X

/-- The COMMAND with an ASSIGN has gone out (R55). -/
def State.assignDone (s : State) (X : LineId) : State := ((s.clearBurst X).noteTraffic X).assignSent X

/-- The POLL of line `X` has gone out: its drive word is sent, a grant deeper than AWAKE clears the listening flag, and
the capture counter starts with the window open (R34, R40, R54, R98, R151). That the word is taken, and a DRIVE it ensures
again is judged, before the listening flag is cleared is the model's (DESIGN CHOICE, log 26). -/
def State.pollDone (s : State) (X : LineId) (q : PollSlot) (word : Option DriveWord) : State :=
  let s := s.clearBurst X
  let s := if word.isSome ∨ ¬ q.grant.isDeep then s.noteTraffic X else s
  let s := match word with
    | some w => s.wordSent X w
    | none => s
  let s := if q.grant ≠ .awake ∧ q.fate ≠ .gone then s.modCar q.car fun c => { c with listening := false } else s
  s.modEng X fun e =>
    { e with poll := some { q with windowOpen := true }, ranging := { Ranging.idle with running := true } }

/-- The burst in progress on line `X`, if any, completes. -/
def State.finishBurst (s : State) (X : LineId) : State :=
  match (s.eng X).burst with
  | none => s
  | some b =>
    match b.kind, (s.eng X).poll with
    | .mark, _ => s.markDone X
    | .drive w, _ => s.driveDone X w
    | .text, _ => s.textDone X
    | .assign, _ => s.assignDone X
    | .poll w, some q => s.pollDone X q w
    | .poll _, none => s.clearBurst X

/-! ## Slot starts -/

/-- Line `X` begins slot `a`: its slot timer is reloaded. -/
def State.beginSlot (s : State) (X : LineId) (a : AirSlot) : State :=
  s.modEng X fun e => { e with slot := a, slotOver := false, slotTimer := e.plan.slotTicks }

/-- The slot timer of line `X` expires and slot `a` is next. A burst still in progress has completed by then (R70;
DEDUCED, log 6). A restart pending is taken in place of the slot (R160). -/
def State.slotBoundary (s : State) (X : LineId) (a : AirSlot) (begin_ : State → State) : State :=
  let s := s.finishBurst X
  if (s.eng X).restartPending then s.restartCycle X else begin_ (s.beginSlot X a)

/-- The drive word for a car (R53, R163). -/
def Car.driveWord (c : Car) : DriveWord :=
  { cap := c.effectiveCap, seq := (c.driveSeqSent + 1) % 8, grant := c.grantedDoze, release := c.release != .none }

/-- The report type of a poll: full when the cadence is reached (R34). -/
def Car.fullDue (c : Car) (cadence : Nat) : Bool := cadence != 0 && decide (cadence ≤ c.pollsSinceFull)

/-- A DRIVE of the car that engine `X` may piggy-back (R54). -/
def State.piggyBack (s : State) (X : LineId) (i : CarIx) : Bool :=
  !s.halt.latch && s.entries.any fun e => e.isDriveOf i && e.engaged != some (otherLine X)

/-- Engine `X` polls car `i`: the POLL is engaged, the context obtained, the drive word piggy-backed, and the POLL burst
begins (R34, R35, R54, R82, R86). -/
def State.sendPoll (s : State) (X : LineId) (i : CarIx) : State :=
  let s := s.engage X (Entry.isPollOf i)
  let k := s.chooseContext X i
  let s := s.obtainContext X i k
  let c := s.car i
  let x := s.context X k
  let p := (s.eng X).params
  let word := if s.piggyBack X i then some c.driveWord else none
  let s := if word.isSome then s.engage X (Entry.isDriveOf i) else s
  let full := c.fullDue p.cadence
  s.modEng X fun e =>
    { e with
      burst := some { kind := .poll word, bits := withCheck (pollBody (airAddress i) c.grantedDoze full word) }
      poll := some {
          car := i, grant := c.grantedDoze, full := full, windowStart := p.windowStart x, windowEnd := p.windowEnd x,
          windowOpen := false, gain := x.gain, fate := .served } }

/-- A poll slot of line `X` begins: the first eligible POLL, or silence (R34, R50). -/
def State.beginPoll (s : State) (X : LineId) : State :=
  match (s.pick (s.pollEligible X)).bind fun e => e.job.carOf with
  | some i => s.sendPoll X i
  | none => s

/-- Engine `X` sends the entry it was given in a command slot: a drive word, the next fragment of a TEXT (seated at its
first), or an ASSIGN (R37, R51, R53, R55). -/
def State.sendCommand (s : State) (X : LineId) (e : Entry) : State :=
  let put (s : State) (b : Burst) : State := s.modEng X fun e => { e with burst := some b }
  match e.job with
  | .poll _ => s
  | .drive i =>
    let w := (s.car i).driveWord
    put (s.engage X (Entry.isDriveOf i)) { kind := .drive w, bits := withCheck (driveBody (airAddress i) w) }
  | .text i t =>
    let seated := if t.next = 0 then { t with seat := some X } else t
    let s := s.mapEntries fun e =>
      if e.isTextAt i t.stamp then { job := .text i seated, engaged := some X } else e
    put s { kind := .text, bits := withCheck (textBody (airAddress i) t) }
  | .assign a => put (s.engage X (Entry.isAssignFor a.unitId)) { kind := .assign, bits := withCheck (assignBody a) }

/-- A command slot of line `X` begins: the first eligible DRIVE, TEXT or ASSIGN, or silence (R37, R50). -/
def State.beginCommand (s : State) (X : LineId) : State :=
  match s.pick (s.commandEligible X) with
  | some e => s.sendCommand X e
  | none => s

/-- A join slot of line `X` begins: it listens when join-open is yes (R38). -/
def State.beginJoin (s : State) (X : LineId) : State :=
  s.modEng X fun e => { e with listening := e.joinOpen, joinRx := none }

/-! ## What a line receives -/

/-- A leading edge in a poll slot when the capture counter has counted `ticks`: the first one inside the window is captured
(R35, R99). -/
def Engine.replyEdge (ticks : Nat) (e : Engine) : Engine :=
  match e.poll with
  | some q =>
    if e.ranging.running ∧ q.windowOpen then
      let c := captureReading ticks
      let t := effectiveCount c.1 c.2
      let r := { e.ranging with count := c.1, overflow := c.2 }
      if e.ranging.captured.isNone ∧ q.windowStart ≤ t ∧ t ≤ q.windowEnd then
        { e with ranging := { r with captured := some c, widthRunning := true, width := 0 } }
      else { e with ranging := r }
    else e
  | none => e

/-- The capture counter reaches the window end (R35). -/
def Engine.closeWindow (e : Engine) : Engine :=
  match e.poll with
  | some q => if q.windowOpen then { e with poll := some { q with windowOpen := false } } else e
  | none => e

/-- The trailing edge of the measured burst of a poll slot or a join slot (R38, R63, R99). -/
def Engine.trailingEdge (width : Nat) (bits : Bits) (e : Engine) : Engine :=
  if e.poll.isSome ∧ e.ranging.captured.isSome ∧ e.ranging.body.isNone then
    let r := { e.ranging with width := min width Config.widthStop, widthRunning := false, body := some bits }
    { e with ranging := r }
  else
    match e.joinRx with
    | some { bits := none, .. } => { e with joinRx := some { width := min width Config.widthStop, bits := some bits } }
    | some _ | none => e

/-- A level report: the first after a capture is its level (R87). -/
def Engine.takeLevel (level : Nat) (e : Engine) : Engine :=
  if e.poll.isSome ∧ e.ranging.captured.isSome ∧ e.ranging.level.isNone then
    { e with ranging := { e.ranging with level := some level } }
  else e

/-- A leading edge in a join slot: the first in a listening slot starts the measurement (R38). -/
def Engine.joinEdge (e : Engine) : Engine :=
  if e.listening ∧ e.joinRx.isNone then { e with joinRx := some { width := 0, bits := none } } else e

/-! ## Slot ends -/

/-- The end of a poll or join slot is an event of this state: the line is in service and the slot is in progress. -/
def State.inPollSlot (s : State) (X : LineId) : Bool :=
  match (s.eng X).slot with
  | .poll _ => (s.eng X).state.inService && !(s.eng X).slotOver
  | .none | .mark | .command _ | .join _ => false

def State.inJoinSlot (s : State) (X : LineId) : Bool :=
  match (s.eng X).slot with
  | .join _ => (s.eng X).state.inService && !(s.eng X).slotOver
  | .none | .mark | .command _ | .poll _ => false

/-- A poll slot's result goes to the context, the roster and the tracker (R36, R104). -/
def State.takeResult (s : State) (X : LineId) (q : PollSlot) (c : SlotClass) : State :=
  match c with
  | .noResult => s
  | .miss reason => (s.modContextOf X q.car fun c => c.afterMiss reason).takeMiss X q.car reason
  | .valid count overflow level r => s.takeReply X q count overflow level r

/-- The end of a poll slot that sent the poll `q` (R36): the POLL leaves the queue, and the result is taken. -/
def State.endPoll (s : State) (X : LineId) (q : PollSlot) (width : Nat) (bits : Bits) : State :=
  let r := (s.eng X).ranging
  let c := match r.body with
    | some b => classify (s.eng X).params q r r.width b
    | none => classify (s.eng X).params q r (min width Config.widthStop) bits
  let s := s.dropEntries fun e => e.engaged == some X && match e.job with
    | .poll _ => true
    | _ => false
  let s := s.modEng X fun e => { e with poll := none, ranging := Ranging.idle }
  s.takeResult X q c

/-- A slot with an end of its own is over; a restart pending is taken (R160). -/
def State.closeSlot (s : State) (X : LineId) : State :=
  let s := s.modEng X fun e => { e with slotOver := true }
  if (s.eng X).restartPending then s.restartCycle X else s

/-- The end of a poll slot (R36, R160). -/
def State.finishPollSlot (s : State) (X : LineId) (width : Nat) (bits : Bits) : State :=
  let s := s.finishBurst X
  let s := match (s.eng X).poll with
    | some q => s.endPoll X q width bits
    | none => s
  s.closeSlot X

/-- The class of a join slot: the unit id of a join, or none for a clash, an ignored burst or no burst (R38). -/
def classifyJoin (p : LineParams) (rx : Option JoinRx) (width : Nat) (bits : Bits) : Option Nat :=
  match rx with
  | none => none
  | some r =>
    let w := match r.bits with
      | some _ => r.width
      | none => min width Config.widthStop
    if p.widthOk Config.joinWidth w then readJoin (r.bits.getD bits) else none

/-- The end of a join slot (R38, R160). -/
def State.finishJoinSlot (s : State) (X : LineId) (width : Nat) (bits : Bits) : State :=
  let e := s.eng X
  let unit := classifyJoin e.params e.joinRx width bits
  let s := s.modEng X fun e => { e with listening := false, joinRx := none }
  let s := match unit with
    | some u => s.hearJoin u X
    | none => s
  s.closeSlot X

/-! ## The commands -/

/-- POLL_SLOT_START (R34). -/
def pollSlotStart (X : LineId) (s : State) : State :=
  match s.nextSlot X with
  | some (.poll k) => s.slotBoundary X (.poll k) fun s => s.beginPoll X
  | some .none | some .mark | some (.command _) | some (.join _) | none => s

/-- COMMAND_SLOT_START (R37). -/
def commandSlotStart (X : LineId) (s : State) : State :=
  match s.nextSlot X with
  | some (.command k) => s.slotBoundary X (.command k) fun s => s.beginCommand X
  | some .none | some .mark | some (.poll _) | some (.join _) | none => s

/-- JOIN_SLOT_START (R38). -/
def joinSlotStart (X : LineId) (s : State) : State :=
  match s.nextSlot X with
  | some (.join k) => s.slotBoundary X (.join k) fun s => s.beginJoin X
  | some .none | some .mark | some (.poll _) | some (.command _) | none => s

/-- CYCLE_END (R31): the cycle end, then the next cycle start; a restart pending is taken in their place (R160). -/
def cycleEnd (X : LineId) (s : State) : State :=
  if s.cycleDone X then
    let s := s.finishBurst X
    if (s.eng X).restartPending then s.restartCycle X else (s.endCycle X).startCycle X .afterEnd
  else s

/-- POLL_BURST_COMPLETE (R54, R98). -/
def pollBurstComplete (X : LineId) (s : State) : State :=
  match (s.eng X).burst, (s.eng X).poll with
  | some { kind := .poll w, .. }, some q => s.pollDone X q w
  | _, _ => s

/-- MARK_BURST_COMPLETE (R33, R156). -/
def markBurstComplete (X : LineId) (s : State) : State :=
  match (s.eng X).burst with
  | some { kind := .mark, .. } => s.markDone X
  | _ => s

/-- DRIVE_WORD_SENT (R53): the burst that carries a drive word completes, a COMMAND or a POLL with a piggy-backed word. -/
def driveWordSent (X : LineId) (s : State) : State :=
  match (s.eng X).burst, (s.eng X).poll with
  | some { kind := .drive w, .. }, _ => s.driveDone X w
  | some { kind := .poll (some w), .. }, some q => s.pollDone X q (some w)
  | _, _ => s

/-- TEXT_FRAGMENT_SENT (R52). -/
def textFragmentSent (X : LineId) (s : State) : State :=
  match (s.eng X).burst with
  | some { kind := .text, .. } => s.textDone X
  | _ => s

/-- ASSIGN_SENT (R55). -/
def assignSent (X : LineId) (s : State) : State :=
  match (s.eng X).burst with
  | some { kind := .assign, .. } => s.assignDone X
  | _ => s

/-- POLL_SLOT_END (R36). -/
def pollSlotEnd (X : LineId) (width : Nat) (bits : Bits) (s : State) : State :=
  if s.inPollSlot X then s.finishPollSlot X width bits else s

/-- JOIN_SLOT_END (R38). -/
def joinSlotEnd (X : LineId) (width : Nat) (bits : Bits) (s : State) : State :=
  if s.inJoinSlot X then s.finishJoinSlot X width bits else s

/-! ## Ticks of the ranging clock (R31, R98, R99; DESIGN CHOICE, log 1) -/

/-- One tick at a line: the slot and cycle timers count down to 0, and the ranging counters count. -/
def Engine.tick (e : Engine) : Engine :=
  { e with
    cycleTimer := e.cycleTimer - 1
    slotTimer := e.slotTimer - 1
    ranging := e.ranging.tick
    joinRx := e.joinRx.map fun r => if r.bits.isNone then { r with width := satAdd1 Config.widthStop r.width } else r }

/-- One tick of the ranging clock, at both lines. -/
def State.tick (s : State) : State := (s.modEng .A Engine.tick).modEng .B Engine.tick

end Sys2Proof.Machine
end

