-- ==== Sys2Proof/Machine/Link.lean ====
section
/-! DEFINITION. The head-end link: the receiver and its buffer, the taking of a request, the reply, and the sending of
frames (R165 to R169). -/

namespace Sys2Proof.Machine

/-! ## Receiving (R166, R167) -/

/-- A sync byte; one with a framing error is skipped. -/
def isSync (c : RxChar) : Bool := c.stopOk && c.byte == 0xA5#8

/-- What the receiver finds at the sync byte that heads the bytes it holds. -/
inductive Scan where
  | wait
  | reject
  | complete (f : Frame)
  deriving DecidableEq, Repr

/-- The frame whose `len` bytes from the kind on, and two check bytes, are `body`. -/
def frameOf (len : Nat) (body : List Byte) : Frame :=
  { kind := byteAt body 0, tag := byteAt body 1, payload := (body.take len).drop 2 }

/-- The CRC-16 that follows `len` bytes of `body` is that of the length bytes and those bytes. -/
def checkOk (len : Nat) (body : List Byte) : Bool :=
  decide (fieldAt body len 2 = (crc16 (leBytes 2 len ++ body.take len)).toNat)

/-- Reads a frame from its sync byte on (R166). -/
def scanFrame (damaged : Bool) : List RxChar → Scan
  | _ :: l0 :: l1 :: body =>
    let len := l0.byte.toNat + 256 * l1.byte.toNat
    if len < 2 ∨ 258 < len then .reject
    else if body.length < len + 2 then .wait
    else if damaged || !(l0 :: l1 :: body.take (len + 2)).all (·.stopOk) || !checkOk len (body.map (·.byte)) then .reject
    else .complete (frameOf len (body.map (·.byte)))
  | _ => .wait

/-- The receiver works through the bytes it holds: it skips to a sync byte, and rejects or completes a frame, as long as it
can. A rejected frame gives up its sync byte alone, and the bytes behind it are scanned again. `n` bounds the recursion. -/
def Link.settle : Nat → Link → Link
  | 0, k => k
  | n + 1, k =>
    let held := k.held.dropWhile fun c => !isSync c
    match scanFrame k.damaged held with
    | .wait => { k with held := held, damaged := k.damaged && !held.isEmpty }
    | .reject =>
      Link.settle n { k with held := held.tail, damaged := false, rejected := satAdd1 255 k.rejected }
    | .complete f =>
      Link.settle n { k with held := held.drop f.size, damaged := false, complete := k.complete ++ [f] }

/-- Bytes in the input buffer: those of the frame being received and of every complete frame (R167). -/
def Link.used (k : Link) : Nat := k.held.length + (k.complete.map Frame.size).sum

/-- One character arrives: dropped when the buffer is full, else held and worked through (R166, R167). -/
def Link.receive (k : Link) (c : RxChar) : Link :=
  if Config.inputBufferBytes ≤ k.used then { k with damaged := k.damaged || !k.held.isEmpty }
  else Link.settle (k.held.length + 2) { k with held := k.held ++ [c] }

/-- Characters arrive one after the other. -/
def State.receiveAll (s : State) (cs : List RxChar) : State := { s with link := cs.foldl Link.receive s.link }

/-- FRAME_COMPLETE: the characters up to the last of a good frame arrive (R166). -/
def frameComplete (cs : List RxChar) (s : State) : State := s.receiveAll cs

/-- FRAME_REJECTED: the characters up to the one at which a frame is rejected arrive (R166). -/
def frameRejected (cs : List RxChar) (s : State) : State := s.receiveAll cs

/-! ## Taking a request and replying (R168) -/

/-- A result code and the contents that follow it. -/
structure Answer where
  code     : Code
  contents : List Byte := []
  deriving DecidableEq, Repr

/-- The payload of a reply: the result code, and the contents only when the request was taken (R165). -/
def Answer.payload (a : Answer) : List Byte := b1 a.code.num ++ (if a.code.taken then a.contents else [])

/-- The reply to a request frame: its kind plus 0x80, its tag (R165). -/
def replyTo (f : Frame) (a : Answer) : Frame := { kind := f.kind + 0x80, tag := f.tag, payload := a.payload }

/-- The reply is placed in the reply holder, behind the notices the outbox holds (R168, R169). -/
def State.placeReply (s : State) (f : Frame) : State :=
  { s with link := { s.link with reply := some { frame := f, ahead := s.link.outbox.length } } }

/-- The request at the head of the input buffer, when it can be taken: the reply holder is empty (R168). -/
def State.oldestRequest (s : State) : Option Frame :=
  match s.link.reply with
  | none => s.link.complete.head?
  | some _ => none

/-- The oldest complete frame leaves the buffer (R167). -/
def State.popFrame (s : State) : State := { s with link := { s.link with complete := s.link.complete.tail } }

/-- Takes the oldest frame when it satisfies `sel`: `act` applies it and answers, and the reply is placed (R168). Without
such a frame nothing is taken (DESIGN CHOICE, log 2). -/
def State.take (s : State) (sel : Frame → Bool) (act : Frame → State → State × Answer) : State :=
  match s.oldestRequest with
  | some f =>
    if sel f then
      let r := act f s.popFrame
      r.1.placeReply (replyTo f r.2)
    else s
  | none => s

/-- A refusal: nothing changes (R168). -/
def State.refuse (s : State) (c : Code) : State × Answer := (s, { code := c })

/-- Checks 2 and 3 of R168: the payload's size, then the tag. -/
def checked (sizeOk : List Byte → Bool) (act : List Byte → State → State × Answer) (f : Frame) (s : State) :
    State × Answer :=
  if !sizeOk f.payload then s.refuse .badLength
  else if f.tag = 0 then s.refuse .badArg
  else act f.payload s

/-- A payload of `n` bytes. -/
def sized (n : Nat) (p : List Byte) : Bool := p.length == n

/-- A frame of request kind `k`. -/
def ofKind (k : Nat) (f : Frame) : Bool := f.kind == k

/-- The kinds of R168 are 0x01 to 0x18. -/
def isRequestKind (k : Nat) : Bool := decide (1 ≤ k ∧ k ≤ 0x18)

/-! ## Sending (R169) -/

/-- The frame generated first among the outbox and the reply holder begins to go out; a notice leaves the outbox then. -/
def Link.sendStart (k : Link) : Link :=
  match k.sending, k.reply, k.outbox with
  | some _, _, _ => k
  | none, some r, n :: rest =>
    if r.ahead = 0 then { k with sending := some { frame := r.frame, isReply := true } }
    else
      { k with
        sending := some { frame := n.frame, isReply := false }, outbox := rest,
        reply := some { r with ahead := r.ahead - 1 } }
  | none, some r, [] => { k with sending := some { frame := r.frame, isReply := true } }
  | none, none, n :: rest => { k with sending := some { frame := n.frame, isReply := false }, outbox := rest }
  | none, none, [] => k

/-- The last byte of the frame on HTXD has gone out; a sent reply empties the reply holder. -/
def Link.sendEnd (k : Link) : Link :=
  match k.sending with
  | some f => { k with sending := none, reply := if f.isReply then none else k.reply }
  | none => k

def frameSendStart (s : State) : State := { s with link := s.link.sendStart }

def frameSendEnd (s : State) : State := { s with link := s.link.sendEnd }

end Sys2Proof.Machine
end

