-- ==== Sys2Proof/Machine/Requests.lean ====
section
/-! DEFINITION. What each request does to the part and what its reply carries (R16, R19, R23 to R25, R30, R46, R76 to R78,
R118 to R121, R132, R137, R138, R143, R144, R158, R162, R171 to R175). An action is given the payload, whose size has been
checked, and the state with the frame taken from the buffer. -/

namespace Sys2Proof.Machine

/-- What an action of a request is. -/
abbrev Act := List Byte → State → State × Answer

/-- The part with the answer DONE. -/
def State.done (s : State) (contents : List Byte := []) : State × Answer := (s, { code := .done, contents := contents })

/-- DONE, or DONE_CLAMPED when a value was replaced. -/
def doneOr (clamped : Bool) : Code := if clamped then .doneClamped else .done

/-- The nearest bound of a range (00, "Optional fields, counts and saturation"). -/
def clampTo (lo hi n : Nat) : Nat := max lo (min hi n)

/-- Runs an action on the line that byte 0 of the payload names (R168, check 4). -/
def withLine (p : List Byte) (s : State) (act : LineId → State × Answer) : State × Answer :=
  match lineOfCode (byteAt p 0) with
  | some X => act X
  | none => s.refuse .badArg

/-! ## Lines -/

/-- The line parameters of a LINE_CONFIG payload (R168). -/
def lineParamsOf (p : List Byte) : LineParams where
  length     := fieldAt p 1 2
  vf         := fieldAt p 3 2
  latency    := fieldAt p 5 2
  halfWidth  := fieldAt p 7 2
  guardTicks := fieldAt p 9 1
  widthTol   := fieldAt p 10 2
  rangeTol   := fieldAt p 12 1
  shift      := fieldAt p 13 1
  vmax       := fieldAt p 14 1
  lostLimit  := fieldAt p 15 1
  cadence    := fieldAt p 16 1
  quietLimit := fieldAt p 17 1
  deepDelay  := fieldAt p 18 1

/-- Each value outside its range is replaced by the nearest bound (R22, R23). -/
def LineParams.clamped (p : LineParams) : LineParams where
  length     := clampTo 1000 50000 p.length
  vf         := clampTo 600 999 p.vf
  latency    := clampTo 0 1023 p.latency
  halfWidth  := clampTo 50 2000 p.halfWidth
  guardTicks := clampTo 0 255 p.guardTicks
  widthTol   := clampTo 10 400 p.widthTol
  rangeTol   := clampTo 0 200 p.rangeTol
  shift      := clampTo 0 3 p.shift
  vmax       := clampTo 0 255 p.vmax
  lostLimit  := clampTo 1 255 p.lostLimit
  cadence    := clampTo 0 255 p.cadence
  quietLimit := clampTo 1 255 p.quietLimit
  deepDelay  := clampTo 0 15 p.deepDelay

/-- The three values that fix the meaning of a range are equal (R23, R95). -/
def LineParams.sameRanging (p q : LineParams) : Bool :=
  p.length == q.length && p.vf == q.vf && p.latency == q.latency

/-- LINE_CONFIG (R23), with the clearing of parked states (R95). -/
def actLineConfig : Act := fun p s => withLine p s fun X =>
  let asked := lineParamsOf p
  let new := asked.clamped
  let old := (s.eng X).params
  if (s.eng X).state ≠ .off ∧ !new.sameRanging old then s.refuse .lineBusy
  else
    let s := s.modEng X fun e => { e with params := new }
    let s := if new.sameRanging old then s else { s with cars := s.cars.map fun c => c.setParked X none }
    (s, { code := doneOr (new != asked) })

/-- LINE_START (R24). That the LINE_STATE notice goes ahead of the CAR_JOIN timed-out notices of the cycle start is the
model's (DESIGN CHOICE, log 32). -/
def actLineStart : Act := fun p s => withLine p s fun X =>
  let e := s.eng X
  if e.state.inService then s.done
  else if e.faultIn then s.refuse .lineFault
  else ((s.changeLineState X .run).startCycle X .lineStart).done

/-- LINE_STOP (R25). -/
def actLineStop : Act := fun p s => withLine p s fun X =>
  match (s.eng X).state with
  | .run | .quiet => (s.depart X .off).done
  | .fault => (s.changeLineState X .off).done
  | .off => s.done

/-- The plan of a PLAN_STAGE payload. -/
def planOf (p : List Byte) : Plan :=
  { polls := byteAt p 1, commands := byteAt p 2, joins := byteAt p 3, slotLen := byteAt p 4 }

/-- The ranges of a plan (R29). -/
def Plan.inRange (p : Plan) : Bool :=
  decide (1 ≤ p.polls ∧ p.polls ≤ 24 ∧ p.commands ≤ 16 ∧ p.joins ≤ 4 ∧ 10 ≤ p.slotLen ∧ p.slotLen ≤ 100)

/-- PLAN_STAGE (R30). -/
def actPlanStage : Act := fun p s => withLine p s fun X =>
  let plan := planOf p
  if !plan.inRange then s.refuse .badArg
  else if s.inService X then (s.modEng X fun e => { e with staged := some plan }).done
  else (s.modEng X fun e => { e with plan := plan, staged := none }).done

/-! ## The way -/

/-- The way parameters of a WAY_CONFIG payload (R168). -/
def wayParamsOf (p : List Byte) : WayParams where
  braking    := fieldAt p 0 2
  reaction   := fieldAt p 2 1
  margin     := fieldAt p 3 2
  carLength  := fieldAt p 5 2
  hysteresis := fieldAt p 7 1
  radius     := fieldAt p 8 2
  motion     := fieldAt p 10 1
  askTimeout := fieldAt p 11 1

/-- Each value outside its range is replaced by the nearest bound (R119). -/
def WayParams.clamped (w : WayParams) : WayParams where
  braking    := clampTo 20 300 w.braking
  reaction   := clampTo 0 50 w.reaction
  margin     := clampTo 0 1000 w.margin
  carLength  := clampTo 0 300 w.carLength
  hysteresis := clampTo 0 20 w.hysteresis
  radius     := clampTo 0 1000 w.radius
  motion     := clampTo 1 100 w.motion
  askTimeout := clampTo 5 250 w.askTimeout

/-- The five parameters whose change causes a gap evaluation are equal (R119). -/
def WayParams.sameGaps (w v : WayParams) : Bool :=
  w.braking == v.braking && w.reaction == v.reaction && w.margin == v.margin && w.carLength == v.carLength
    && w.hysteresis == v.hysteresis

/-- WAY_CONFIG (R119). -/
def actWayConfig : Act := fun p s =>
  let asked := wayParamsOf p
  let new := asked.clamped
  let s' : State := { s with way := new }
  let s' := if new.sameGaps s.way then s' else s'.evaluateGaps
  (s', { code := doneOr (new != asked) })

/-- ZONE_WRITE (R120). -/
def actZoneWrite : Act := fun p s =>
  let lo := ofLEInt32 ((p.drop 1).take 4)
  let hi := ofLEInt32 ((p.drop 5).take 4)
  let cap := byteAt p 9
  let enabled := byteAt p 10
  match zoneOfNat (byteAt p 0) with
  | none => s.refuse .badArg
  | some z =>
    if hi ≤ lo ∨ lo < -50000 ∨ 50000 < lo ∨ hi < -50000 ∨ 50000 < hi ∨ 254 < cap ∨ 1 < enabled then s.refuse .badArg
    else
      let s : State := { s with zones := s.zones.set z { lo := lo, hi := hi, cap := cap, enabled := enabled == 1 } }
      let r := s.inSomeOrder (allCars.filter fun i => (s.car i).present)
      (r.1.foldl (fun s i => s.evaluateZones i) r.2).done

/-- ZONE_READ (R121); the two places take the fewest bytes that hold their range, three (R165; DEDUCED, log 15). -/
def actZoneRead : Act := fun p s =>
  match zoneOfNat (byteAt p 0) with
  | none => s.refuse .badArg
  | some n =>
    let z := s.zone n
    s.done (leBytesInt 3 z.lo ++ leBytesInt 3 z.hi ++ b1 z.cap ++ flag z.enabled
      ++ b1 (allCars.filter fun i => (s.car i).present && (s.car i).touch.contains n).length)

/-- One entry of a WAY_ORDER reply (R118, R168). -/
def State.wayEntry (s : State) (i : CarIx) : List Byte :=
  let c := s.car i
  b1 i.val ++ leBytesInt 3 ((c.position.map (·.dm)).getD (-1)) ++ optBytes 1 (c.position.map fun p => lineCode p.line)
    ++ leBytes 3 c.uncertainty ++ b1 c.direction.code ++ b1 c.speed ++ b1 c.effectiveCap ++ optBytes 1 c.gapCap

/-- WAY_ORDER, with or without a first index (R118). -/
def actWayOrder : Act := fun p s =>
  let first := byteAt p 0
  let order := s.wayOrder
  let shown := (order.drop first).take 20
  s.done (b1 order.length ++ b1 first ++ b1 shown.length ++ (shown.map s.wayEntry).flatten)

/-! ## Gates -/

/-- The source that GATE_CONFIG's kind, slot and zone name: none for a kind that is no kind, or a slot or zone outside its
range (R137, checks 2 to 4). -/
def sourceOf (kind slot zone : Nat) : Option Source :=
  match kind with
  | 0 => some .none
  | 1 => some (.cycleEnd .A)
  | 2 => some (.cycleEnd .B)
  | 3 => (carOfNat slot).map .carHeard
  | 4 => match carOfNat slot, zoneOfNat zone with
    | some i, some z => some (.carInZone i z)
    | _, _ => Option.none
  | 5 => (carOfNat slot).map .carStill
  | 6 => some .haltEnd
  | _ => Option.none

/-- A flag byte. -/
def flagOfCode : Nat → Option Bool
  | 0 => some false
  | 1 => some true
  | _ => none

/-- GATE_CONFIG (R137). -/
def actGateConfig : Act := fun p s =>
  match gateOfNat (byteAt p 0), sourceOf (byteAt p 1) (byteAt p 2) (byteAt p 3), flagOfCode (byteAt p 4),
    placementOfCode (byteAt p 5) with
  | some g, some src, some banking, some placement =>
    if src.carOf.any fun i => !(s.car i).present then s.refuse .noCar
    else
      (s.modGate g fun x => { x with source := src, banking := banking, placement := placement, credit := 0 }).done
  | _, _, _, _ => s.refuse .badArg

/-- The contents of a GATE_OPEN reply (R143); fields the outcome lacks are all-ones (DEDUCED, log 15). -/
def Opened.contents : Opened → List Byte
  | .text i seq => b1 0 ++ b1 i.val ++ b1 seq ++ optBytes 1 none
  | .cap i code => b1 1 ++ b1 i.val ++ b1 code ++ optBytes 1 none
  | .banked credit => b1 2 ++ optBytes 1 none ++ optBytes 1 none ++ b1 credit
  | .nothing => b1 3 ++ optBytes 1 none ++ optBytes 1 none ++ optBytes 1 none

/-- GATE_OPEN (R143). -/
def actGateOpen : Act := fun p s =>
  match gateOfNat (byteAt p 0) with
  | none => s.refuse .badArg
  | some g =>
    let r := s.openGate g
    r.1.done r.2.contents

/-- One held entry in a GATE_READ reply (R144); a cap code takes the one byte that holds its range (R165; DEDUCED, log
15). -/
def Held.contents : Held → List Byte
  | .text i t => b1 i.val ++ b1 t.seq ++ b1 t.level.val ++ b1 t.chars.length
  | .cap i code => b1 i.val ++ b1 code

/-- GATE_READ (R144). -/
def actGateRead : Act := fun p s =>
  match gateOfNat (byteAt p 0) with
  | none => s.refuse .badArg
  | some g =>
    let x := s.gate g
    s.done (b1 x.source.code ++ optBytes 1 (x.source.carOf.map (·.val)) ++ optBytes 1 (x.source.zoneOf.map (·.val))
      ++ flag x.banking ++ b1 x.placement.code ++ b1 x.credit ++ b1 x.hold.length
      ++ (x.hold.map Held.contents).flatten)

/-- The gate that a gate byte names: 0xFF is no gate (R165), and the outer none is a gate outside 0 to 7. -/
def gateByte (n : Nat) : Option (Option (Fin 8)) :=
  if n = 0xFF then some none else (gateOfNat n).map some

/-- Contents "applied or held" of CAR_CAP (R165: 1 for held). -/
def heldFlag (held : Bool) : List Byte := flag held

/-- CAR_CAP (R132, R138). -/
def actCarCap : Act := fun p s =>
  let code := fieldAt p 1 2
  match carOfNat (byteAt p 0) with
  | none => s.refuse .badArg
  | some i =>
    if 255 < code then s.refuse .badArg
    else
      match gateByte (byteAt p 3) with
      | none => s.refuse .badArg
      | some gate =>
        if !(s.car i).present then s.refuse .noCar
        else
          match gate with
          | none => (s.applyHeadCap i code).done (heldFlag false)
          | some g =>
            if 0 < (s.gate g).credit then
              ((s.modGate g fun x => { x with credit := x.credit - 1 }).applyHeadCap i code).done (heldFlag false)
            else if Config.poolSize ≤ s.poolInUse then s.refuse .queueFull
            else (s.modGate g fun x => { x with hold := x.hold ++ [.cap i code] }).done (heldFlag true)

/-- The size check of CAR_TEXT: five bytes and as many characters as the count says (R168). -/
def textSize (p : List Byte) : Bool := decide (5 ≤ p.length) && p.length == 5 + byteAt p 4

/-- A character outside 0x20 to 0x7E is replaced by a question mark (R46). -/
def printable (c : Byte) : Byte := if 0x20 ≤ c.toNat ∧ c.toNat ≤ 0x7E then c else 0x3F#8

/-- The level of a text after clamping: 0 and 1 become 2, above 7 becomes 7 (R46). -/
def textLevel (n : Nat) : Fin 8 :=
  if n ≤ 2 then 2 else if h : n < 8 then ⟨n, h⟩ else 7

/-- CAR_TEXT (R46, R138). -/
def actCarText : Act := fun p s =>
  let level := byteAt p 2
  let budget := byteAt p 3
  let chars := p.drop 5
  match carOfNat (byteAt p 0) with
  | none => s.refuse .badArg
  | some i =>
    if chars.length = 0 ∨ 40 < chars.length then s.refuse .badArg
    else
      match gateByte (byteAt p 1) with
      | none => s.refuse .badArg
      | some gate =>
        if !(s.car i).present then s.refuse .noCar
        else if Config.poolSize ≤ s.poolInUse then s.refuse .queueFull
        else
          let seq := ((s.car i).textSeq + 1) % 4
          let t : Text :=
            { level := textLevel level, chars := chars.map printable, next := 0, budget := min 3 budget, seq := seq,
              seat := none, stamp := 0 }
          let clamped := decide (t.level.val ≠ level) || decide (t.budget ≠ budget) || t.chars != chars
          let s := s.modCar i fun c => { c with textSeq := seq }
          let s := match gate with
            | none => s.enterText .tail i t
            | some g =>
              if 0 < (s.gate g).credit then
                (s.modGate g fun x => { x with credit := x.credit - 1 }).enterText .tail i t
              else s.modGate g fun x => { x with hold := x.hold ++ [.text i t] }
          (s, { code := doneOr clamped, contents := b1 seq })

/-! ## Cars -/

/-- Runs an action on the car that byte 0 of the payload names: BAD_ARG outside 0 to 47, NO_CAR for a FREE slot. -/
def withCar (p : List Byte) (s : State) (act : CarIx → State × Answer) : State × Answer :=
  match carOfNat (byteAt p 0) with
  | none => s.refuse .badArg
  | some i => if (s.car i).present then act i else s.refuse .noCar

/-- CAR_DROP (R16, R17). -/
def actCarDrop : Act := fun p s => withCar p s fun i => (s.removeCar i true).done

/-- A parked link state in a CAR_READ reply. -/
def parkedBytes (p : Option Parked) : List Byte := optBytes 2 (p.map (·.centre)) ++ optBytes 1 (p.map (·.gain))

/-- The index of the context that the car holds on line `X`, in a CAR_READ reply. -/
def State.contextByte (s : State) (X : LineId) (i : CarIx) : List Byte :=
  optBytes 1 (((s.eng X).contextOf i).map (·.val))

/-- The record and queue view of a car, in the order R19 lists. -/
def State.record (s : State) (i : CarIx) : List Byte :=
  let c := s.car i
  b1 i.val ++ leBytes 3 c.unitId
    ++ b1 c.state.code ++ b1 (lineCode c.joinLine) ++ b1 c.home.code
    ++ leBytesInt 3 ((c.position.map (·.dm)).getD (-1)) ++ optBytes 1 (c.position.map fun p => lineCode p.line)
    ++ leBytes 3 c.uncertainty ++ b1 c.direction.code ++ b1 c.speed
    ++ b1 c.requestedDoze.level ++ b1 c.grantedDoze.level ++ b1 c.lightRun ++ flag c.listening
    ++ b1 c.countdown ++ b1 c.missCount ++ b1 c.clashCount ++ b1 c.pollsSinceFull
    ++ b1 c.headCap ++ b1 c.zoneCap ++ optBytes 1 c.gapCap ++ b1 c.effectiveCap
    ++ b1 c.driveSeqSent ++ b1 c.capSent ++ b1 c.confirmedCap
    ++ b1 c.textSeq ++ optBytes 1 (c.textAwait.map (·.seq)) ++ optBytes 1 (c.textAwait.map (·.waited))
    ++ optBytes 1 (c.textAwait.map (·.budget))
    ++ parkedBytes c.parkedA ++ parkedBytes c.parkedB
    ++ optBytes 1 c.battery ++ optBytes 2 c.odometer ++ optBytes 1 (c.carFaults.map CarFaults.code)
    ++ flag (s.hasPoll i) ++ flag (s.hasDrive i) ++ b1 (s.textsOf i).length
    ++ s.contextByte .A i ++ s.contextByte .B i

/-- CAR_READ (R19). -/
def actCarRead : Act := fun p s => withCar p s fun i => s.done (s.record i)

/-! ## Joining -/

/-- ADMISSION (R78). -/
def actAdmission : Act := fun p s =>
  match admissionOfCode (byteAt p 0) with
  | some m => ({ s with admission := m } : State).done
  | none => s.refuse .badArg

/-- The first checks of ADMIT and REFUSE, and the ask they find (R76, R77). -/
def withAsk (p : List Byte) (s : State) (act : Ask → State × Answer) : State × Answer :=
  let u := fieldAt p 0 3
  if !validUnit u then s.refuse .badArg
  else
    match s.asks.find? fun a => a.unitId == u with
    | none => s.refuse .tooLate
    | some a => if s.assignBlocked u then s.refuse .queueFull else act a

/-- The ask of a unit leaves the list. -/
def State.removeAsk (s : State) (u : Nat) : State := { s with asks := s.asks.filter fun a => a.unitId != u }

/-- ADMIT (R76). -/
def actAdmit : Act := fun p s => withAsk p s fun a =>
  let r := (s.removeAsk a.unitId).admitUnit a.unitId a.line
  r.1.done (optBytes 1 (r.2.map (·.val)))

/-- REFUSE (R77). -/
def actRefuse : Act := fun p s => withAsk p s fun a =>
  (((s.removeAsk a.unitId).offerAssign { unitId := a.unitId, line := a.line, outcome := .full }).notify
    (.carJoin .refused none a.unitId (some a.line))).done

/-! ## Halt and resume -/

/-- The named values of an ALL_STOP payload: the action (true for MODE) and the halt mode (R158). -/
def allStopArgs (p : List Byte) : Option (Bool × HaltMode) :=
  match flagOfCode (byteAt p 0), haltModeOfCode (byteAt p 1) with
  | some a, some m => some (a, m)
  | _, _ => none

/-- A frame that the ALL_STOP row with the given action takes: kind 0x15, and not an ALL_STOP with the other action. A
malformed ALL_STOP is taken by either row and refused (DESIGN CHOICE, log 21). -/
def ofAllStop (mode : Bool) (f : Frame) : Bool :=
  ofKind 0x15 f && !(sized 2 f.payload && (allStopArgs f.payload).any fun a => a.1 != mode)

/-- ALL_STOP (R158). -/
def actAllStop : Act := fun p s =>
  match allStopArgs p with
  | none => s.refuse .badArg
  | some (false, _) => (s.setCause .request).done
  | some (true, m) => ({ s with halt := { s.halt with mode := m } } : State).done

/-- A car's release is owed, and its DRIVE ensured (R162). -/
def State.oweRelease (s : State) (i : CarIx) : State :=
  (s.modCar i fun c => { c with release := .owed }).ensureDrive i true

/-- RESUME (R162). -/
def actResume : Act := fun _ s =>
  if s.halt.estop then s.refuse .stopActive
  else if !s.halt.latch then s.done
  else
    let causes := causesOf s.halt.pin s.halt.request
    let s := s.notify (.halt false causes)
    let s : State := { s with halt := { s.halt with latch := false, pin := false, request := false } }
    let s := s.judge fun _ => true
    let s := s.sourceEvent .haltEnd
    let r := s.inSomeOrder (allCars.filter fun i => (s.car i).present)
    (r.1.foldl (fun s i => s.oweRelease i) r.2).done

/-! ## The link's own requests -/

/-- NOTICE_MASK (R171). -/
def actNoticeMask : Act := fun p s =>
  let m := fieldAt p 0 2
  if 512 ≤ m then s.refuse .badArg
  else ({ s with link := { s.link with mask := BitVec.ofNat 9 m } } : State).done (leBytes 2 m)

/-- IDENT (R173). -/
def actIdent : Act := fun _ s =>
  s.done ([0x52#8, 0x32#8, 0x4C#8] ++ b1 1 ++ b1 s.link.rate ++ b1 48 ++ b1 6 ++ b1 16 ++ b1 8 ++ b1 Config.poolSize
    ++ b1 Config.askPlaces ++ b1 Config.outboxSize)

/-- The line parameters in a STATUS reply, in the widths of LINE_CONFIG. -/
def LineParams.bytes (p : LineParams) : List Byte :=
  leBytes 2 p.length ++ leBytes 2 p.vf ++ leBytes 2 p.latency ++ leBytes 2 p.halfWidth ++ b1 p.guardTicks
    ++ leBytes 2 p.widthTol ++ b1 p.rangeTol ++ b1 p.shift ++ b1 p.vmax ++ b1 p.lostLimit ++ b1 p.cadence
    ++ b1 p.quietLimit ++ b1 p.deepDelay

def Plan.bytes (p : Plan) : List Byte := b1 p.polls ++ b1 p.commands ++ b1 p.joins ++ b1 p.slotLen

def WayParams.bytes (w : WayParams) : List Byte :=
  leBytes 2 w.braking ++ b1 w.reaction ++ leBytes 2 w.margin ++ leBytes 2 w.carLength ++ b1 w.hysteresis
    ++ leBytes 2 w.radius ++ b1 w.motion ++ b1 w.askTimeout

/-- One line in a STATUS reply (R174). -/
def State.lineStatus (s : State) (X : LineId) : List Byte :=
  let e := s.eng X
  b1 e.state.code ++ flag e.faultIn ++ e.params.bytes ++ e.plan.bytes ++ flag e.staged.isSome
    ++ (match e.staged with
        | some p => p.bytes
        | none => optBytes 1 none ++ optBytes 1 none ++ optBytes 1 none ++ optBytes 1 none)
    ++ leBytes 2 e.cycle ++ b1 e.idle ++ flag e.breakPending ++ flag e.restartPending
    ++ b1 (e.ctx.toList.filter fun c => c.owner.isSome).length
    ++ optBytes 1 ((s.seat X).map fun x => x.1.val)

/-- Entries of a kind in the queue. -/
def State.countJobs (s : State) (p : Job → Bool) : Nat := (s.entries.filter fun e => p e.job).length

def Job.isPoll : Job → Bool
  | .poll _ => true
  | .drive _ | .text .. | .assign _ => false

def Job.isDrive : Job → Bool
  | .drive _ => true
  | .poll _ | .text .. | .assign _ => false

def Job.isText : Job → Bool
  | .text .. => true
  | .poll _ | .drive _ | .assign _ => false

/-- The queue in a STATUS reply (R61, R174). -/
def State.queueStatus (s : State) : List Byte :=
  (s.queue.toList.map fun l => b1 l.length).flatten ++ b1 (s.countJobs Job.isPoll) ++ b1 (s.countJobs Job.isDrive)
    ++ b1 (s.countJobs Job.isText) ++ b1 s.assignCount ++ b1 s.poolInUse

/-- Cars whose release state is OWED or SENT (R163). -/
def State.releasesOwed (s : State) : Nat :=
  (allCars.filter fun i => (s.car i).present && (s.car i).release != .none).length

/-- The status record (R174). -/
def State.statusRecord (s : State) : List Byte :=
  s.lineStatus .A ++ s.lineStatus .B ++ s.way.bytes ++ s.queueStatus
    ++ b1 s.admission.code ++ b1 s.asks.length
    ++ (s.asks.map fun a => leBytes 3 a.unitId ++ b1 (lineCode a.line) ++ b1 a.cyclesLeft).flatten
    ++ flag s.halt.latch ++ flag s.halt.pin ++ flag s.halt.request ++ b1 s.halt.mode.code ++ flag s.halt.estop
    ++ b1 s.releasesOwed
    ++ leBytes 2 s.link.mask.toNat ++ b1 s.link.outbox.length ++ flag s.link.overflow ++ b1 s.link.rejected

/-- STATUS (R174): the record as it stands, then the overflow flag and the rejected-frame count are cleared. -/
def actStatus : Act := fun _ s =>
  (({ s with link := { s.link with overflow := false, rejected := 0 } } : State), { code := .done, contents := s.statusRecord })

/-! ## Resets -/

/-- The outbox is emptied; discarding a notice sets the overflow flag (R172). -/
def Link.emptyOutbox (k : Link) : Link := { k with outbox := [], overflow := k.overflow || !k.outbox.isEmpty }

/-- A line at RESTART: the parameters, the active plan and the fault input are kept (R22, R93, R98). -/
def Engine.restarted (e : Engine) : Engine := { Engine.cold e.faultIn with params := e.params, plan := e.plan }

/-- A gate at RESTART (R146). -/
def Gate.restarted (g : Gate) : Gate := { g with credit := 0, hold := [] }

/-- The LINE_STATE notice of a line that RESTART took out of its state (R22). -/
def State.noteStopped (s : State) (X : LineId) (old : LineState) : State :=
  if old = .off then s else s.notify (.lineState X .off)

/-- RESTART, up to its reply (R175). -/
def actRestart : Act := fun _ s =>
  let a := s.lineA.state
  let b := s.lineB.state
  let s : State :=
    { s with
      link := s.link.emptyOutbox
      lineA := s.lineA.restarted
      lineB := s.lineB.restarted
      cars := Vector.replicate 48 Car.free
      queue := Vector.replicate 8 []
      gates := s.gates.map Gate.restarted
      asks := [] }
  ((s.noteStopped .A a).noteStopped .B b).done

/-- The STARTED notice with the latch and causes as they stand (R170). -/
def State.noteStarted (s : State) (warm : Bool) : State :=
  s.notify (.started warm s.link.rate s.halt.latch (causesOf s.halt.pin s.halt.request))

/-- The line rate code of the straps (R176). -/
def rateCode (baud1 baud0 : Bool) : Nat := 2 * baud1.toNat + baud0.toNat

/-- COLD_RESET: every block takes its cold-reset values, the latch from the level of ESTOP, the rate from the straps; then
STARTED (cold) is generated (R164, R176). The levels of the pins stay as they are. -/
def coldReset (baud1 baud0 : Bool) (s : State) : State :=
  let r := State.reset
  ({ r with
      lineA := Engine.cold s.lineA.faultIn
      lineB := Engine.cold s.lineB.faultIn
      halt := { r.halt with latch := s.halt.estop, pin := s.halt.estop, estop := s.halt.estop }
      link := { r.link with rate := rateCode baud1 baud0, outbox := [] }
      choices := s.choices
      pending := s.pending } : State).noteStarted false

/-! ## Pins -/

/-- ESTOP_ASSERT (R158): a change from released to asserted sets the PIN cause. -/
def estopAssert (s : State) : State :=
  if s.halt.estop then s else ({ s with halt := { s.halt with estop := true } } : State).setCause .pin

/-- ESTOP_RELEASE (R158): neither the latch nor the causes change. -/
def estopRelease (s : State) : State := { s with halt := { s.halt with estop := false } }

/-- FAULT_INPUT_SET (R26): a line in service goes to FAULT with the departure effects. -/
def faultInputSet (X : LineId) (s : State) : State :=
  let was := (s.eng X).faultIn
  let t := s.modEng X fun e => { e with faultIn := true }
  if !was && t.inService X then t.depart X .fault else t

/-- FAULT_INPUT_CLEAR (R26). -/
def faultInputClear (X : LineId) (s : State) : State := s.modEng X fun e => { e with faultIn := false }

end Sys2Proof.Machine
end

