-- ==== Sys2Proof/Machine/Commands.lean ====
section
/-! DEFINITION. The meanings: one for each command, over the operations of the other files. Every one of them is total
and answers a next state. -/

namespace Sys2Proof.Machine

/-- The outcome of a command or a step. -/
abbrev Outcome := Host.Outcome State Fault Refusal

/-! ## Requests (R168): each takes the oldest complete frame when it is of the command's kind -/

/-- IDENT (R173). -/
def execIdent (s : State) : Outcome := .next (s.take (ofKind 0x01) (checked (sized 0) actIdent))

/-- STATUS (R174). -/
def execStatus (s : State) : Outcome := .next (s.take (ofKind 0x02) (checked (sized 0) actStatus))

/-- LINE_CONFIG (R23). -/
def execLineConfig (s : State) : Outcome := .next (s.take (ofKind 0x03) (checked (sized 19) actLineConfig))

/-- LINE_START (R24). -/
def execLineStart (s : State) : Outcome := .next (s.take (ofKind 0x04) (checked (sized 1) actLineStart))

/-- LINE_STOP (R25). -/
def execLineStop (s : State) : Outcome := .next (s.take (ofKind 0x05) (checked (sized 1) actLineStop))

/-- PLAN_STAGE (R30). -/
def execPlanStage (s : State) : Outcome := .next (s.take (ofKind 0x06) (checked (sized 5) actPlanStage))

/-- WAY_CONFIG (R119). -/
def execWayConfig (s : State) : Outcome := .next (s.take (ofKind 0x07) (checked (sized 12) actWayConfig))

/-- ZONE_WRITE (R120). -/
def execZoneWrite (s : State) : Outcome := .next (s.take (ofKind 0x08) (checked (sized 11) actZoneWrite))

/-- ZONE_READ (R121). -/
def execZoneRead (s : State) : Outcome := .next (s.take (ofKind 0x09) (checked (sized 1) actZoneRead))

/-- GATE_CONFIG (R137). -/
def execGateConfig (s : State) : Outcome := .next (s.take (ofKind 0x0A) (checked (sized 6) actGateConfig))

/-- GATE_OPEN (R143). -/
def execGateOpen (s : State) : Outcome := .next (s.take (ofKind 0x0B) (checked (sized 1) actGateOpen))

/-- GATE_READ (R144). -/
def execGateRead (s : State) : Outcome := .next (s.take (ofKind 0x0C) (checked (sized 1) actGateRead))

/-- CAR_CAP (R132). -/
def execCarCap (s : State) : Outcome := .next (s.take (ofKind 0x0D) (checked (sized 4) actCarCap))

/-- CAR_TEXT (R46). -/
def execCarText (s : State) : Outcome := .next (s.take (ofKind 0x0E) (checked textSize actCarText))

/-- CAR_DROP (R16). -/
def execCarDrop (s : State) : Outcome := .next (s.take (ofKind 0x0F) (checked (sized 1) actCarDrop))

/-- CAR_READ (R19). -/
def execCarRead (s : State) : Outcome := .next (s.take (ofKind 0x10) (checked (sized 1) actCarRead))

/-- WAY_ORDER (R118). -/
def execWayOrder (s : State) : Outcome := .next (s.take (ofKind 0x11) (checked (fun p => sized 0 p || sized 1 p) actWayOrder))

/-- ADMISSION (R78). -/
def execAdmission (s : State) : Outcome := .next (s.take (ofKind 0x12) (checked (sized 1) actAdmission))

/-- ADMIT (R76). -/
def execAdmit (s : State) : Outcome := .next (s.take (ofKind 0x13) (checked (sized 3) actAdmit))

/-- REFUSE (R77). -/
def execRefuse (s : State) : Outcome := .next (s.take (ofKind 0x14) (checked (sized 3) actRefuse))

/-- ALL_STOP_STOP (R158). -/
def execAllStopStop (s : State) : Outcome := .next (s.take (ofAllStop false) (checked (sized 2) actAllStop))

/-- ALL_STOP_MODE (R158). -/
def execAllStopMode (s : State) : Outcome := .next (s.take (ofAllStop true) (checked (sized 2) actAllStop))

/-- RESUME (R162). -/
def execResume (s : State) : Outcome := .next (s.take (ofKind 0x16) (checked (sized 0) actResume))

/-- NOTICE_MASK (R171). -/
def execNoticeMask (s : State) : Outcome := .next (s.take (ofKind 0x17) (checked (sized 2) actNoticeMask))

/-- RESTART (R175): once the reply is placed, STARTED (warm) is generated; a frame that is refused restarts nothing. -/
def execRestart (s : State) : Outcome :=
  .next (match s.oldestRequest with
    | some f =>
      if ofKind 0x18 f then
        let r := checked (sized 0) actRestart f s.popFrame
        let t := r.1.placeReply (replyTo f r.2)
        if r.2.code.taken then t.noteStarted true else t
      else s
    | none => s)

/-- UNKNOWN_KIND_FRAME (R168, check 1): the reply has kind 0x80 and carries the result code and the kind received. -/
def execUnknownKindFrame (s : State) : Outcome :=
  .next (match s.oldestRequest with
    | some f =>
      if isRequestKind f.kind then s
      else s.popFrame.placeReply { kind := 0x80, tag := f.tag, payload := b1 Code.badKind.num ++ b1 f.kind }
    | none => s)

/-! ## Link, pin, timer and air events -/

/-- FRAME_COMPLETE (R166). -/
def execFrameComplete (chars : List RxChar) (s : State) : Outcome := .next (frameComplete chars s)

/-- FRAME_REJECTED (R166). -/
def execFrameRejected (chars : List RxChar) (s : State) : Outcome := .next (frameRejected chars s)

/-- FRAME_SEND_START (R169). -/
def execFrameSendStart (s : State) : Outcome := .next (frameSendStart s)

/-- FRAME_SEND_END (R169). -/
def execFrameSendEnd (s : State) : Outcome := .next (frameSendEnd s)

/-- COLD_RESET (R176). -/
def execColdReset (baud1 : Bool) (baud0 : Bool) (s : State) : Outcome := .next (coldReset baud1 baud0 s)

/-- ESTOP_ASSERT (R158). -/
def execEstopAssert (s : State) : Outcome := .next (estopAssert s)

/-- ESTOP_RELEASE (R158). -/
def execEstopRelease (s : State) : Outcome := .next (estopRelease s)

/-- FAULT_INPUT_SET (R26). -/
def execFaultInputSet (line : LineId) (s : State) : Outcome := .next (faultInputSet line s)

/-- FAULT_INPUT_CLEAR (R26). -/
def execFaultInputClear (line : LineId) (s : State) : Outcome := .next (faultInputClear line s)

/-- LEVEL_REPORT (R87). -/
def execLevelReport (line : LineId) (level : BitVec 6) (s : State) : Outcome := .next (s.modEng line (Engine.takeLevel level.toNat))

/-- CYCLE_END (R31). -/
def execCycleEnd (line : LineId) (s : State) : Outcome := .next (cycleEnd line s)

/-- POLL_SLOT_START (R34). -/
def execPollSlotStart (line : LineId) (s : State) : Outcome := .next (pollSlotStart line s)

/-- POLL_BURST_COMPLETE (R54). -/
def execPollBurstComplete (line : LineId) (s : State) : Outcome := .next (pollBurstComplete line s)

/-- REPLY_EDGE_CAPTURE (R99). -/
def execReplyEdgeCapture (line : LineId) (ticks : Nat) (s : State) : Outcome := .next (s.modEng line (Engine.replyEdge ticks))

/-- REPLY_WINDOW_END (R35). -/
def execReplyWindowEnd (line : LineId) (s : State) : Outcome := .next (s.modEng line Engine.closeWindow)

/-- BURST_TRAILING_EDGE (R99). -/
def execBurstTrailingEdge (line : LineId) (width : Nat) (bits : Bits) (s : State) : Outcome := .next (s.modEng line (Engine.trailingEdge width bits))

/-- POLL_SLOT_END (R36). -/
def execPollSlotEnd (line : LineId) (width : Nat) (bits : Bits) (s : State) : Outcome := .next (pollSlotEnd line width bits s)

/-- COMMAND_SLOT_START (R37). -/
def execCommandSlotStart (line : LineId) (s : State) : Outcome := .next (commandSlotStart line s)

/-- DRIVE_WORD_SENT (R53). -/
def execDriveWordSent (line : LineId) (s : State) : Outcome := .next (driveWordSent line s)

/-- TEXT_FRAGMENT_SENT (R52). -/
def execTextFragmentSent (line : LineId) (s : State) : Outcome := .next (textFragmentSent line s)

/-- ASSIGN_SENT (R55). -/
def execAssignSent (line : LineId) (s : State) : Outcome := .next (assignSent line s)

/-- JOIN_SLOT_START (R38). -/
def execJoinSlotStart (line : LineId) (s : State) : Outcome := .next (joinSlotStart line s)

/-- JOIN_EDGE (R38). -/
def execJoinEdge (line : LineId) (s : State) : Outcome := .next (s.modEng line Engine.joinEdge)

/-- JOIN_SLOT_END (R38). -/
def execJoinSlotEnd (line : LineId) (width : Nat) (bits : Bits) (s : State) : Outcome := .next (joinSlotEnd line width bits s)

/-- MARK_BURST_COMPLETE (R156). -/
def execMarkBurstComplete (line : LineId) (s : State) : Outcome := .next (markBurstComplete line s)

end Sys2Proof.Machine
end

