-- ==== Sys2Proof/Machine/Dispatch.lean ====
section
/-! DEFINITION. One arm for each command. -/

namespace Sys2Proof.Machine

def exec (i : Instr) (s : State) : Host.Outcome State Fault Refusal :=
  match i with
  | .ident => Sys2Proof.Machine.execIdent s
  | .status => Sys2Proof.Machine.execStatus s
  | .lineConfig => Sys2Proof.Machine.execLineConfig s
  | .lineStart => Sys2Proof.Machine.execLineStart s
  | .lineStop => Sys2Proof.Machine.execLineStop s
  | .planStage => Sys2Proof.Machine.execPlanStage s
  | .wayConfig => Sys2Proof.Machine.execWayConfig s
  | .zoneWrite => Sys2Proof.Machine.execZoneWrite s
  | .zoneRead => Sys2Proof.Machine.execZoneRead s
  | .gateConfig => Sys2Proof.Machine.execGateConfig s
  | .gateOpen => Sys2Proof.Machine.execGateOpen s
  | .gateRead => Sys2Proof.Machine.execGateRead s
  | .carCap => Sys2Proof.Machine.execCarCap s
  | .carText => Sys2Proof.Machine.execCarText s
  | .carDrop => Sys2Proof.Machine.execCarDrop s
  | .carRead => Sys2Proof.Machine.execCarRead s
  | .wayOrder => Sys2Proof.Machine.execWayOrder s
  | .admission => Sys2Proof.Machine.execAdmission s
  | .admitUnit => Sys2Proof.Machine.execAdmit s
  | .refuse => Sys2Proof.Machine.execRefuse s
  | .allStopStop => Sys2Proof.Machine.execAllStopStop s
  | .allStopMode => Sys2Proof.Machine.execAllStopMode s
  | .resume => Sys2Proof.Machine.execResume s
  | .noticeMask => Sys2Proof.Machine.execNoticeMask s
  | .restart => Sys2Proof.Machine.execRestart s
  | .unknownKindFrame => Sys2Proof.Machine.execUnknownKindFrame s
  | .frameComplete chars => Sys2Proof.Machine.execFrameComplete chars s
  | .frameRejected chars => Sys2Proof.Machine.execFrameRejected chars s
  | .frameSendStart => Sys2Proof.Machine.execFrameSendStart s
  | .frameSendEnd => Sys2Proof.Machine.execFrameSendEnd s
  | .coldReset baud1 baud0 => Sys2Proof.Machine.execColdReset baud1 baud0 s
  | .estopAssert => Sys2Proof.Machine.execEstopAssert s
  | .estopRelease => Sys2Proof.Machine.execEstopRelease s
  | .faultInputSet line => Sys2Proof.Machine.execFaultInputSet line s
  | .faultInputClear line => Sys2Proof.Machine.execFaultInputClear line s
  | .levelReport line level => Sys2Proof.Machine.execLevelReport line level s
  | .cycleEnd line => Sys2Proof.Machine.execCycleEnd line s
  | .pollSlotStart line => Sys2Proof.Machine.execPollSlotStart line s
  | .pollBurstComplete line => Sys2Proof.Machine.execPollBurstComplete line s
  | .replyEdgeCapture line ticks => Sys2Proof.Machine.execReplyEdgeCapture line ticks s
  | .replyWindowEnd line => Sys2Proof.Machine.execReplyWindowEnd line s
  | .burstTrailingEdge line width bits => Sys2Proof.Machine.execBurstTrailingEdge line width bits s
  | .pollSlotEnd line width bits => Sys2Proof.Machine.execPollSlotEnd line width bits s
  | .commandSlotStart line => Sys2Proof.Machine.execCommandSlotStart line s
  | .driveWordSent line => Sys2Proof.Machine.execDriveWordSent line s
  | .textFragmentSent line => Sys2Proof.Machine.execTextFragmentSent line s
  | .assignSent line => Sys2Proof.Machine.execAssignSent line s
  | .joinSlotStart line => Sys2Proof.Machine.execJoinSlotStart line s
  | .joinEdge line => Sys2Proof.Machine.execJoinEdge line s
  | .joinSlotEnd line width bits => Sys2Proof.Machine.execJoinSlotEnd line width bits s
  | .markBurstComplete line => Sys2Proof.Machine.execMarkBurstComplete line s

end Sys2Proof.Machine
end

