-- ==== Sys2Proof/Safety.lean ====
section
/-! DEFINITION. What counts as a safe state of the part, and the words in which statements about it speak: the invariants
that every step keeps, the request a part takes next, its reply, and what a command leaves alone. -/

namespace Sys2Proof.Machine

/-! ## Invariants -/

/-- R136: the credit lies in 0 to 15, and is 0 while something is held. -/
abbrev Gate.Orderly (x : Gate) : Prop := x.credit ≤ 15 ∧ (x.hold ≠ [] → x.credit = 0)

abbrev State.GatesOrderly (s : State) : Prop := ∀ g, (s.gate g).Orderly

/-- The latch is set exactly while a cause is set (R158, R162, R164). -/
abbrev State.LatchHasCause (s : State) : Prop := s.halt.latch = (s.halt.pin || s.halt.request)

/-- R131: every car's effective cap is the lowest of its three caps. -/
abbrev State.CapsLowest (s : State) : Prop := ∀ i, (s.car i).present = true → (s.car i).effectiveCap = (s.car i).lowestCap

/-- R172: the outbox holds at most 32 notices. -/
abbrev State.OutboxBounded (s : State) : Prop := s.link.outbox.length ≤ Config.outboxSize

/-- R74: at most four asks, of distinct units. -/
abbrev State.AsksOrderly (s : State) : Prop :=
  s.asks.length ≤ Config.askPlaces ∧ (s.asks.map (·.unitId)).Nodup

/-- R93: while a line is out of service its set holds only free contexts. -/
abbrev State.RestingContextsFree (s : State) : Prop :=
  ∀ X, s.inService X = false → ∀ k, s.context X k = Ctx.free

/-- R81: a car owns at most one context of a line. -/
abbrev State.OneContextEach (s : State) : Prop :=
  ∀ X k l, (s.context X k).owner ≠ none → (s.context X k).owner = (s.context X l).owner → k = l

/-- R110, R22: every uncertainty lies within 0 to 100,000 dm, and so does every line's ranging tolerance. -/
abbrev State.UncertaintyBounded (s : State) : Prop :=
  (∀ i, (s.car i).uncertainty ≤ Config.maxUncertainty) ∧ ∀ X, (s.eng X).params.rangeTol ≤ Config.maxUncertainty

/-- R42: at most four ASSIGN entries. -/
abbrev State.AssignsBounded (s : State) : Prop := s.assignCount ≤ Config.assignPlaces

/-- R42, R60: at most one POLL and one DRIVE for each car, at most one ASSIGN for each unit, and at most 40 pool entries in
use. -/
abbrev State.QueueOrderly (s : State) : Prop :=
  (∀ i, (s.entries.filter (Entry.isPollOf i)).length ≤ 1) ∧ (∀ i, (s.entries.filter (Entry.isDriveOf i)).length ≤ 1) ∧
    (∀ u, (s.entries.filter (Entry.isAssignFor u)).length ≤ 1) ∧ s.poolInUse ≤ Config.poolSize

/-- R17, R18, R94, R145: none of these refers to a FREE slot: a POLL, DRIVE or TEXT, an ASSIGN ROOM, a held entry, a
context, a poll slot in progress that has not taken note of the removal. -/
abbrev State.NoTraceOfFreeSlots (s : State) : Prop :=
  (∀ e ∈ s.entries, ∀ i, e.job.carOf = some i ∨ e.isRoomOf i = true → (s.car i).present = true) ∧
    (∀ g, ∀ h ∈ (s.gate g).hold, (s.car h.carOf).present = true) ∧
    (∀ X k i, (s.context X k).owner = some i → (s.car i).present = true) ∧
    ∀ X q, (s.eng X).poll = some q → q.fate ≠ .gone → (s.car q.car).present = true

/-- R137, R145: no gate's CAR_ source names a FREE slot. RESTART lets them name one (R146). -/
abbrev State.SourcesPresent (s : State) : Prop :=
  ∀ g i, (s.gate g).source.carOf = some i → (s.car i).present = true

/-- R1, R74: the cars of the roster have valid unit ids, all different, and no ask is of a unit in the roster. -/
abbrev State.UnitsOrderly (s : State) : Prop :=
  (∀ i, (s.car i).present = true → 1 ≤ (s.car i).unitId ∧ (s.car i).unitId ≤ 16777214) ∧
    (∀ i j, (s.car i).present = true → (s.car j).present = true → (s.car i).unitId = (s.car j).unitId → i = j) ∧
    ∀ a ∈ s.asks, ∀ i, (s.car i).present = true → (s.car i).unitId ≠ a.unitId

/-! ## Requests (R168) -/

/-- The request kind of a row that takes a frame. -/
def requestKind : Instr → Option Nat
  | .ident => some 0x01
  | .status => some 0x02
  | .lineConfig => some 0x03
  | .lineStart => some 0x04
  | .lineStop => some 0x05
  | .planStage => some 0x06
  | .wayConfig => some 0x07
  | .zoneWrite => some 0x08
  | .zoneRead => some 0x09
  | .gateConfig => some 0x0A
  | .gateOpen => some 0x0B
  | .gateRead => some 0x0C
  | .carCap => some 0x0D
  | .carText => some 0x0E
  | .carDrop => some 0x0F
  | .carRead => some 0x10
  | .wayOrder => some 0x11
  | .admission => some 0x12
  | .admitUnit => some 0x13
  | .refuse => some 0x14
  | .allStopStop | .allStopMode => some 0x15
  | .resume => some 0x16
  | .noticeMask => some 0x17
  | .restart => some 0x18
  | .unknownKindFrame | .frameComplete _ | .frameRejected _ | .frameSendStart | .frameSendEnd | .coldReset ..
  | .estopAssert | .estopRelease | .faultInputSet _ | .faultInputClear _ | .levelReport .. | .cycleEnd _
  | .pollSlotStart _ | .pollBurstComplete _ | .replyEdgeCapture .. | .replyWindowEnd _ | .burstTrailingEdge ..
  | .pollSlotEnd .. | .commandSlotStart _ | .driveWordSent _ | .textFragmentSent _ | .assignSent _
  | .joinSlotStart _ | .joinEdge _ | .joinSlotEnd .. | .markBurstComplete _ => none

/-- The payload sizes that the table of R168 gives a request kind. -/
def sizeAllowed (kind : Nat) (p : List Byte) : Prop :=
  match kind with
  | 0x01 | 0x02 | 0x16 | 0x18 => p.length = 0
  | 0x03 => p.length = 19
  | 0x04 | 0x05 | 0x09 | 0x0B | 0x0C | 0x0F | 0x10 | 0x12 => p.length = 1
  | 0x06 => p.length = 5
  | 0x07 => p.length = 12
  | 0x08 => p.length = 11
  | 0x0A => p.length = 6
  | 0x0D => p.length = 4
  | 0x0E => 5 ≤ p.length ∧ p.length = 5 + (p.getD 4 0).toNat
  | 0x11 => p.length = 0 ∨ p.length = 1
  | 0x13 | 0x14 => p.length = 3
  | 0x15 | 0x17 => p.length = 2
  | _ => False

/-- The part takes this frame next: the reply holder is empty and the frame is the oldest complete one. -/
abbrev State.TakesFrame (s : State) (f : Frame) : Prop := s.link.reply = none ∧ s.link.complete.head? = some f

/-- The part takes this request next: its tag is a request's. -/
abbrev State.Takes (s : State) (kind tag : Nat) (payload : List Byte) : Prop :=
  s.TakesFrame { kind := kind, tag := tag, payload := payload } ∧ tag ≠ 0

/-- The reply frame of a request (R165). -/
def replyFrame (kind tag : Nat) (code : Code) (contents : List Byte) : Frame :=
  { kind := kind + 0x80, tag := tag,
    payload := BitVec.ofNat 8 code.num :: (if code.taken then contents else []) }

/-- The state with the oldest frame taken from the buffer and the reply placed, and nothing else changed. -/
def State.answered (s : State) (kind tag : Nat) (code : Code) (contents : List Byte) : State :=
  { s with
    link := { s.link with
      complete := s.link.complete.tail
      reply := some { frame := replyFrame kind tag code contents, ahead := s.link.outbox.length } } }

/-- `t` has taken the oldest frame of `s` and holds the reply, placed behind every notice of its outbox; of the link, only
the outbox and the overflow flag may differ besides. -/
abbrev State.Answers (s t : State) (kind tag : Nat) (code : Code) (contents : List Byte) : Prop :=
  t.link =
    { s.link with
      complete := s.link.complete.tail
      reply := some { frame := replyFrame kind tag code contents, ahead := t.link.outbox.length }
      outbox := t.link.outbox
      overflow := t.link.overflow }

/-! ## What a command leaves alone -/

/-- An engine without its break-pending flag: two engines agree in all else when these are equal. -/
def Engine.unbroken (e : Engine) : Engine := { e with breakPending := false }

/-- A value outside a range is replaced by the nearest bound (00, "Optional fields, counts and saturation"). -/
def nearest (lo hi n : Nat) : Nat := if n < lo then lo else if hi < n then hi else n

/-- The notices that `s`'s mask enables, of a list (R170). -/
def State.enabled (s : State) (l : List Notice) : List Notice := l.filter fun n => s.link.mask.getLsbD n.bit

/-- The notices with `p` that `t` has queued since `s`, neither having lost one. -/
def State.queuedSince (s t : State) (p : Notice → Bool) : List Notice :=
  (t.link.outbox.drop s.link.outbox.length).filter p

/-- Nothing of the lines but break-pending flags has changed. -/
abbrev State.LinesKept (s t : State) : Prop := ∀ X, (t.eng X).unbroken = (s.eng X).unbroken

/-- The settings of the part: the way parameters, the zones, the admission mode and the commands that wait. -/
abbrev State.SettingsKept (s t : State) : Prop :=
  t.zones = s.zones ∧ t.way = s.way ∧ t.admission = s.admission ∧ t.pending = s.pending

/-- Everything outside the roster, the queue, the gates, the link and the break-pending flags is as it was. -/
abbrev State.RestKept (s t : State) : Prop :=
  s.LinesKept t ∧ s.SettingsKept t ∧ t.asks = s.asks ∧ t.halt = s.halt

/-- Of the link, only the outbox and the overflow flag may differ. -/
abbrev State.LinkKept (s t : State) : Prop :=
  t.link = { s.link with outbox := t.link.outbox, overflow := t.link.overflow }

/-- The entries of every level but those with `p` stand as they stood. -/
abbrev State.QueueKeptBut (s t : State) (p : Entry → Bool) : Prop :=
  ∀ l : Fin 8, (t.queue[l].filter fun e => !p e) = s.queue[l].filter fun e => !p e

/-- A head cap has been applied to car `i`: the head cap, the effective cap as the lowest of the three, and a DRIVE when
that changed (R131, R132, R141). -/
abbrev State.CapApplied (s t : State) (i : CarIx) (code : Nat) : Prop :=
  t.car i =
      { s.car i with
        headCap := code
        effectiveCap := min (min code (s.car i).zoneCap) ((s.car i).gapCap.getD 255) } ∧
    (∀ j, j ≠ i → t.car j = s.car j) ∧
    ((t.car i).effectiveCap ≠ (s.car i).effectiveCap → t.hasDrive i = true) ∧
    s.QueueKeptBut t (Entry.isDriveOf i)

/-- A text has entered the queue for car `i` by placement `p`, last in the car's text order, and has woken the car
(R46, R140, R150). -/
abbrev State.TextEntered (s t : State) (p : Placement) (i : CarIx) (x : Text) : Prop :=
  let entry : Entry := { job := .text i { x with stamp := s.nextStamp i }, engaged := none }
  (t.queue =
      match p with
      | .head => s.queue.set x.level (entry :: s.queue[x.level])
      | .tail => s.queue.set x.level (s.queue[x.level] ++ [entry])) ∧
    t.car i =
      (if (s.car i).grantedDoze = .awake then s.car i
       else { s.car i with grantedDoze := .awake, lightRun := 0, listening := false }) ∧
    ∀ j, j ≠ i → t.car j = s.car j

/-- An ASSIGN has been offered and taken (R45): it replaces the one of its unit in place, or stands at the tail of level 2. -/
abbrev State.AssignOffered (s t : State) (a : Assign) : Prop :=
  (∃ e ∈ t.entries, e.job = .assign a) ∧
    (s.entries.any (Entry.isAssignFor a.unitId) = true → ∀ l : Fin 8, t.queue[l].length = s.queue[l].length) ∧
    (s.entries.any (Entry.isAssignFor a.unitId) = false →
      t.queue[(2 : Fin 8)].getLast? = some { job := .assign a, engaged := none })

/-! ## Source events and gap evaluations (R129, R139 to R142) -/

/-- Every gate whose source is one of `p` has been opened once, and no other gate has changed (R139 to R142): the first held
entry is released, a TEXT to its level and a cap to its car, or a credit is banked. The head cap of a car that has no cap
released is as it was; with several released at one event the last one counts, and their order is open (log 4). -/
abbrev State.GatesOpened (s t : State) (p : Source → Prop) : Prop :=
  (∀ g, ¬ p (s.gate g).source → t.gate g = s.gate g) ∧
    (∀ g, p (s.gate g).source →
      (∀ h rest, (s.gate g).hold = h :: rest → t.gate g = { s.gate g with hold := rest }) ∧
      (∀ i x rest, (s.gate g).hold = .text i x :: rest →
        ∃ e ∈ t.queue[x.level], ∃ n, e.job = .text i { x with next := 0, seat := none, stamp := n }) ∧
      (∀ i code rest, (s.gate g).hold = .cap i code :: rest →
        (∀ g' code' rest', p (s.gate g').source → (s.gate g').hold = .cap i code' :: rest' → g' = g) →
        (t.car i).headCap = code) ∧
      ((s.gate g).hold = [] →
        t.gate g =
          { s.gate g with
            credit := if (s.gate g).banking = true then min 15 ((s.gate g).credit + 1) else (s.gate g).credit })) ∧
    ∀ i, (∀ g code rest, p (s.gate g).source → (s.gate g).hold ≠ .cap i code :: rest) →
      (t.car i).headCap = (s.car i).headCap

/-- One gap evaluation of the way, every limit taken from `u` (R125 to R131): each car of the way order takes its gap cap
by the hysteresis and its effective cap as the lowest of three, and a changed effective cap leaves a DRIVE queued. -/
abbrev State.GapsEvaluated (s u t : State) : Prop :=
  (∀ pre i post, s.wayOrder = pre ++ i :: post →
    (t.car i).gapCap =
        nextGapCap u.way.hysteresis (s.car i).gapCap (u.newLimit pre.getLast? post.head? i) ∧
      (t.car i).effectiveCap = (t.car i).lowestCap) ∧
    (∀ i, i ∉ s.wayOrder → (t.car i).gapCap = (s.car i).gapCap) ∧
    ∀ i, (t.car i).effectiveCap ≠ (s.car i).effectiveCap → t.hasDrive i = true

/-! ## Cycle starts (R12, R13, R43, R75) -/

/-- The asks after one cycle start of line `X` (R75). -/
def State.asksLeft (s : State) (X : LineId) : List Ask :=
  (s.asks.filter fun a => a.line ≠ X ∨ 1 < a.cyclesLeft).map fun a =>
    if a.line = X then { a with cyclesLeft := a.cyclesLeft - 1 } else a

/-- The notices of the asks that one cycle start of line `X` times out, in list order (R75, log 17). -/
def State.timedOut (s : State) (X : LineId) : List Notice :=
  (s.asks.filter fun a => a.line = X ∧ a.cyclesLeft ≤ 1).map fun a => .carJoin .timedOut none a.unitId (some X)

/-- The asks of line `X` have been counted, and CAR_JOIN timed-out is queued for those that ended (R75). -/
abbrev State.AsksCounted (s t : State) (X : LineId) : Prop :=
  t.asks = s.asksLeft X ∧
    (t.link.overflow = false → s.queuedSince t (fun n => n.bit == 1) = s.enabled (s.timedOut X))

/-- The POLLs of a cycle start of line `X` (R12, R13, R43): a car that counts on `X` and has none takes one, with its
countdown reloaded, when the countdown stands at 0, and counts down else; every other countdown and POLL stays. -/
abbrev State.PollsGenerated (s t : State) (X : LineId) : Prop :=
  ∀ i,
    ((s.car i).present = true → (s.car i).home.countingLine = X → s.hasPoll i = false →
      ((s.car i).countdown = 0 →
        (t.car i).countdown = (t.car i).pollInterval - 1 ∧ ∃ e ∈ t.queue[(t.car i).pollLevel], e.job = .poll i) ∧
      ((s.car i).countdown ≠ 0 →
        (t.car i).countdown = (s.car i).countdown - 1 ∧ t.hasPoll i = false)) ∧
    ((s.car i).present = false ∨ (s.car i).home.countingLine ≠ X ∨ s.hasPoll i = true →
      (t.car i).countdown = (s.car i).countdown ∧ t.hasPoll i = s.hasPoll i)

/-- What a cycle end of line `X` and the cycle start behind it do to the gates, the gap caps and the asks (R75, R129, R130,
R142). The limits come from the uncertainties before the growth or after it: their order is open (log 4). -/
abbrev State.CycleTurned (s t : State) (X : LineId) : Prop :=
  s.AsksCounted t X ∧ s.GatesOpened t (fun src => src = .cycleEnd X) ∧
    (∃ u, (u = s ∨ u = t) ∧ s.GapsEvaluated u t) ∧
    (t.link.overflow = false →
      s.queuedSince t (fun n => n.bit == 5) =
        s.enabled (allCars.filterMap fun i => capChange i (s.car i).gapCap (t.car i).gapCap))

/-! ## Departures (R10, R27) -/

/-- A JOINING car homed on line `X`, which lapses when the line leaves service (R7, R10). -/
def State.lapsing (s : State) (X : LineId) (i : CarIx) : Bool :=
  (s.car i).present && (s.car i).home == homeOf X && (s.car i).state == .joining

/-- The notice that a departure of line `X` queues for a car (R7, R10). -/
def State.lossNotice (s : State) (X : LineId) (i : CarIx) : Option Notice :=
  if (s.car i).present = true ∧ (s.car i).home = homeOf X ∧ (s.car i).state ≠ .lost then
    some (if s.lapsing X i then .carJoin .lapsed (some i) (s.car i).unitId none
      else .carLost i (s.car i).unitId .lineDown)
  else none

/-- What a line that has left service holds (R27, R93): it stands in `st`, with no slot, no burst, free contexts and no TEXT
seated; its plan, staged plan, cycle number and parameters are kept. The notices, CAP_CHANGEs of a lapse's gap evaluation
apart, are LINE_STATE and then those of the cars in ascending slot order. -/
abbrev State.Departed (s t : State) (X : LineId) (st : LineState) : Prop :=
  (t.eng X).state = st ∧ (t.eng X).slot = .none ∧ (t.eng X).joinOpen = false ∧ (t.eng X).idle = 0 ∧
    (t.eng X).breakPending = false ∧ (t.eng X).restartPending = false ∧ (t.eng X).burst = none ∧
    (t.eng X).poll = none ∧ (t.eng X).ranging = Ranging.idle ∧ (∀ k, t.context X k = Ctx.free) ∧ t.seat X = none ∧
    (t.eng X).plan = (s.eng X).plan ∧ (t.eng X).staged = (s.eng X).staged ∧ (t.eng X).cycle = (s.eng X).cycle ∧
    (t.eng X).params = (s.eng X).params ∧
    (t.eng (otherLine X)).state = (s.eng (otherLine X)).state ∧
    (s.link.notify (.lineState X st)).outbox <+: t.link.outbox ∧
    (t.link.overflow = false →
      s.queuedSince t (fun n => n.bit != 5) =
        s.enabled (.lineState X st :: allCars.filterMap fun i => s.lossNotice X i))

/-- An entry once the slot of line `X` has been cut by a departure: disengaged, and a TEXT that was seated on `X` is
unseated with next fragment index 0 (R27, R39, R58, R59). -/
def Entry.cutOn (X : LineId) (e : Entry) : Entry :=
  { job := match e.job with
      | .text i x => .text i (if x.seat = some X then { x with next := 0, seat := none } else x)
      | j => j
    engaged := if e.engaged = some X then none else e.engaged }

/-- What a departure of line `X` makes of the queue (R27, R39, R58, R59): every entry but those of a lapsing car stays in its
level, freed from `X`, where a DRIVE may move to a more urgent level; the POLL of the cut slot goes to the head of its level.
Nothing but a DRIVE is added. -/
abbrev State.EntriesCut (s t : State) (X : LineId) : Prop :=
  (∀ e ∈ t.entries, e.engaged ≠ some X) ∧
    (∀ l : Fin 8, ∀ e ∈ t.queue[l], e.job.isDrive = false → ∃ x ∈ s.queue[l], e = x.cutOn X) ∧
    ∀ l : Fin 8, ∀ e ∈ s.queue[l],
      (∀ i, e.job.carOf = some i ∨ e.isRoomOf i = true → s.lapsing X i = false) →
      (e.job.isDrive = false → e.cutOn X ∈ t.queue[l]) ∧
      (e.job.isDrive = true → ∃ k : Fin 8, k ≤ l ∧ e.cutOn X ∈ t.queue[k]) ∧
      (e.job.isPoll = true → e.engaged = some X →
        (∀ x ∈ s.queue[l], x.job.isPoll = true → x.engaged = some X → x.job = e.job) →
        t.queue[l].head? = some (e.cutOn X))

/-- What a departure of line `X` makes of each car (R7, R10, R27, R93): a JOINING car homed on `X` lapses and leaves nothing
behind; another car homed on `X` is LOST with the saturated uncertainty; a BOTH car's home becomes the other line when that
is in service; a dirty context is parked into its owner's record. Nothing else of a record changes but the caps that the gap
evaluation of a lapse may set. The fields of a FREE record are the model's (log 9). -/
abbrev State.CarsTakenDown (s t : State) (X : LineId) : Prop :=
  ∀ i,
    (s.lapsing X i = true →
      t.car i = Car.free ∧ (∀ e ∈ t.entries, e.job.carOf ≠ some i ∧ e.isRoomOf i = false) ∧
        ∀ g, ∀ h ∈ (t.gate g).hold, h.carOf ≠ i) ∧
    ((s.car i).present = true → s.lapsing X i = false →
      t.car i =
        { s.car i with
          state := if (s.car i).home = homeOf X then .lost else (s.car i).state
          uncertainty := if (s.car i).home = homeOf X then 100000 else (s.car i).uncertainty
          home :=
            if (s.car i).home = .both ∧ s.inService (otherLine X) = true then homeOf (otherLine X) else (s.car i).home
          parkedA := (t.car i).parkedA, parkedB := (t.car i).parkedB
          gapCap := (t.car i).gapCap, effectiveCap := (t.car i).effectiveCap } ∧
      (t.car i).parked (otherLine X) = (s.car i).parked (otherLine X) ∧
      ((∀ k, (s.context X k).owner ≠ some i) → (t.car i).parked X = (s.car i).parked X) ∧
      ∀ k, (s.context X k).owner = some i → (∀ l, (s.context X l).owner = some i → l = k) →
        (t.car i).parked X =
          if (s.context X k).dirty = true then
            some { centre := (s.context X k).centre, gain := (s.context X k).gain }
          else (s.car i).parked X)

/-! ## Cycles and halt restarts (R31, R32, R160, R161) -/

/-- An uncertainty after one growth at a cycle end of line `X` (R112). -/
def State.grown (s : State) (X : LineId) (uncertainty : Nat) : Nat :=
  min 100000 (uncertainty +
    (5 * (s.eng X).params.vmax *
      (1 + (s.eng X).plan.polls + (s.eng X).plan.commands + (s.eng X).plan.joins) *
      (s.eng X).plan.slotLen + 99999) / 100000)

/-- What one cycle end of line `X` makes of the heard mark and the uncertainty of a car that counts on `X` (R111, R112). A
dozing-stationary car is spoken of only in `CYCLE_END`'s own statement, since a gate may wake it first. -/
abbrev State.GrownAt (s t : State) (X : LineId) (i : CarIx) : Prop :=
  (t.car i).heardMark = false ∧
    ((s.car i).heardMark = true → (t.car i).uncertainty = (s.car i).uncertainty) ∧
    ((s.car i).heardMark = false → (s.car i).speed ≠ 0 ∨ (s.car i).grantedDoze.isDeep = false →
      (t.car i).uncertainty = s.grown X (s.car i).uncertainty)

/-- Line `X` has taken a halt cycle restart: a cycle end and a cycle start in RUN, with the slot gone (R32, R39, R161). The
all-stop flag of the mark is the latch as it stands; join-open is no (R161,
log 13). -/
abbrev State.Restarted (s t : State) (X : LineId) : Prop :=
  (t.eng X).state = .run ∧ (t.eng X).slot = .mark ∧ (t.eng X).slotOver = false ∧
    (t.eng X).cycle = ((s.eng X).cycle + 1) % 65536 ∧
    (t.eng X).plan = (s.eng X).staged.getD (s.eng X).plan ∧ (t.eng X).staged = none ∧
    (t.eng X).restartPending = false ∧ (t.eng X).traffic = false ∧ (t.eng X).poll = none ∧ (t.eng X).joinRx = none ∧
    (t.eng X).listening = false ∧ (t.eng X).ranging = Ranging.idle ∧
    (t.eng X).idle = (if (s.eng X).traffic then 0 else min 255 ((s.eng X).idle + 1)) ∧
    (t.eng X).cycleTimer = (1 + (t.eng X).plan.polls + (t.eng X).plan.commands + (t.eng X).plan.joins) *
      ((t.eng X).plan.slotLen * 10000) ∧
    (t.eng X).joinOpen = false ∧
    (t.eng X).burst =
      some {
        kind := .mark
        bits := withCheck (markBody X (t.eng X).cycle (t.eng X).plan t.halt.latch (t.eng X).joinOpen) } ∧
    (t.eng X).params = (s.eng X).params ∧ (t.eng X).faultIn = (s.eng X).faultIn

/-- A restart pending has been taken on line `X` (R160): the line is restarted with no break pending, with the effects that
every cycle end and cycle start have on the gates, the gap caps and the asks (R32, R161); of the other line only the
break-pending flag may differ, of the link only the outbox and the overflow flag, and the settings and the latch stand. -/
abbrev State.RestartTaken (s t : State) (X : LineId) : Prop :=
  s.Restarted t X ∧ s.CycleTurned t X ∧ (t.eng X).breakPending = false ∧
    (t.eng (otherLine X)).unbroken = (s.eng (otherLine X)).unbroken ∧ s.LinkKept t ∧ s.SettingsKept t ∧ t.halt = s.halt

/-- Line `X` stops at once when the latch becomes set: it is in service, and the mode is IMMEDIATE or its burst in progress
is a mark, a COMMAND or a POLL with a drive word (R160). -/
def State.stopsAtOnce (s : State) (X : LineId) : Bool :=
  s.inService X && (s.halt.mode == .immediate || match (s.eng X).burst with
    | none | some { kind := .poll none, .. } => false
    | some _ => true)

/-- An entry once the latch has become set: disengaged when its engine stopped at once, and every seated TEXT is unseated
with next fragment index 0 (R39, R58, R59). -/
def Entry.stopped (s : State) (e : Entry) : Entry :=
  { job := match e.job with
      | .text i x => .text i (if x.seat = none then x else { x with next := 0, seat := none })
      | j => j
    engaged := match e.engaged with
      | some X => if s.stopsAtOnce X then none else some X
      | none => none }

/-- What the setting of the latch does to the lines and the queue (R39, R58, R59, R160, R161): a line that stops at once is
restarted, a line whose slot runs out has its restart pending and listens no more, a line out of service is not touched.
Every entry stays queued, freed from a line that stopped at once; a DRIVE may move to a more urgent level, and a POLL whose
slot was cut is the first POLL of its level. -/
abbrev State.LinesStopped (s t : State) : Prop :=
  (∀ X, t.seat X = none ∧ (t.eng X).ctx = (s.eng X).ctx) ∧
    (∀ X, s.inService X = false → t.eng X = s.eng X) ∧
    (∀ X, s.stopsAtOnce X = true → s.Restarted t X ∧ ∀ e ∈ t.entries, e.engaged ≠ some X) ∧
    (∀ X, s.inService X = true → s.stopsAtOnce X = false →
      t.eng X = { s.eng X with
        restartPending := true, listening := false, joinRx := none, breakPending := (t.eng X).breakPending }) ∧
    (∀ l : Fin 8, ∀ e ∈ s.queue[l],
      (e.job.isDrive = false → e.stopped s ∈ t.queue[l]) ∧
      (e.job.isDrive = true → ∃ k : Fin 8, k ≤ l ∧ e.stopped s ∈ t.queue[k]) ∧
      (e.job.isPoll = true → (∃ X, e.engaged = some X ∧ s.stopsAtOnce X = true) →
        (∀ x ∈ s.queue[l], x.job.isPoll = true → (∃ X, x.engaged = some X ∧ s.stopsAtOnce X = true) → x.job = e.job) →
        (t.queue[l].find? fun x => x.job.isPoll) = some (e.stopped s))) ∧
    (∀ i, (t.car i).state = (s.car i).state ∧ (t.car i).position = (s.car i).position ∧
      (t.car i).home = (s.car i).home ∧ (t.car i).missCount = (s.car i).missCount ∧
      (t.car i).confirmedCap = (s.car i).confirmedCap ∧ (t.car i).release = (s.car i).release) ∧
    ∀ i, (s.car i).present = true →
      (s.stopsAtOnce (s.car i).home.countingLine = true → s.GrownAt t (s.car i).home.countingLine i) ∧
      (s.stopsAtOnce (s.car i).home.countingLine = false →
        (t.car i).heardMark = (s.car i).heardMark ∧ (t.car i).uncertainty = (s.car i).uncertainty)

/-! ## Slots -/

/-- The class that the end of the poll slot `q` gives (R36, R100): of the burst whose trailing edge was seen, or of the one
still in progress, measured as having ended there with `width` and `bits`. -/
def State.slotClass (s : State) (X : LineId) (q : PollSlot) (width : Nat) (bits : Bits) : SlotClass :=
  match (s.eng X).ranging.body with
  | some b => classify (s.eng X).params q (s.eng X).ranging (s.eng X).ranging.width b
  | none => classify (s.eng X).params q (s.eng X).ranging (min width 16383) bits

/-- The entry is the first of the queue, level 0 first, with `p` (R50). -/
abbrev State.FirstWith (s : State) (p : Entry → Bool) (e : Entry) : Prop :=
  ∃ before after, s.entries = before ++ e :: after ∧ (∀ x ∈ before, p x = false) ∧ p e = true

/-- Only the lines, the records and the queue differ. -/
abbrev State.OnlyAir (s t : State) : Prop :=
  t = { s with lineA := t.lineA, lineB := t.lineB, cars := t.cars, queue := t.queue }

/-- A drive word has been sent to car `i` from engine `X` (R53, R163): its seq and cap are recorded, a flagged word makes
the release SENT, its entry is gone, and a DRIVE is queued when the cap sent is no longer the effective cap. The
listening flag aside, nothing else of a record changes. -/
abbrev State.WordTaken (s t : State) (X : LineId) (i : CarIx) (w : DriveWord) : Prop :=
  t.car i =
      { s.car i with
        driveSeqSent := w.seq, capSent := w.cap, listening := (t.car i).listening
        release := if w.release then .sent else (s.car i).release } ∧
    (∀ j, j ≠ i → t.car j = s.car j) ∧
    (∀ e ∈ t.entries, e.engaged = some X → e.isDriveOf i = false) ∧
    ((s.car i).effectiveCap ≠ w.cap → t.hasDrive i = true) ∧
    s.QueueKeptBut t (Entry.isDriveOf i) ∧ t.eng (otherLine X) = { s.eng (otherLine X) with
      breakPending := (t.eng (otherLine X)).breakPending } ∧
    s.OnlyAir t

end Sys2Proof.Machine
end

