-- ==== Sys2Proof/WellFormed.lean ====
section
/-! DEFINITION. Which commands can be given: the ranges of the operands that the types do not already bound.
The machine's meanings are total and do not need these checks; they say which measurements a part can report. -/

namespace Sys2Proof

/-- A command whose operands lie in the ranges the manual gives the counters behind them. -/
def Instr.wellFormed : Instr → Bool
  -- the arrival of a character is what completes or rejects a frame (R166)
  | .frameComplete cs => !cs.isEmpty
  | .frameRejected cs => !cs.isEmpty
  -- the capture counter stops at 32,767 (R98)
  | .replyEdgeCapture _ t => decide (t ≤ Config.captureStop)
  -- the width counter starts at the leading edge and stops at 16,383 (R99)
  | .burstTrailingEdge _ w _ => decide (0 < w ∧ w ≤ Config.widthStop)
  | .pollSlotEnd _ w _ => decide (w ≤ Config.widthStop)
  | .joinSlotEnd _ w _ => decide (w ≤ Config.widthStop)
  | .ident | .status | .lineConfig | .lineStart | .lineStop | .planStage | .wayConfig | .zoneWrite
  | .zoneRead | .gateConfig | .gateOpen | .gateRead | .carCap | .carText | .carDrop | .carRead
  | .wayOrder | .admission | .admitUnit | .refuse | .allStopStop | .allStopMode | .resume | .noticeMask
  | .restart | .unknownKindFrame | .frameSendStart | .frameSendEnd | .coldReset .. | .estopAssert
  | .estopRelease | .faultInputSet _ | .faultInputClear _ | .levelReport .. | .cycleEnd _
  | .pollSlotStart _ | .pollBurstComplete _ | .replyWindowEnd _ | .commandSlotStart _
  | .driveWordSent _ | .textFragmentSent _ | .assignSent _ | .joinSlotStart _ | .joinEdge _
  | .markBurstComplete _ => true

end Sys2Proof
end

