-- ==== Sys2Proof/Certificates/Slice0/Obligations.lean ====
section
/-! DEFINITION. The statements about the part, for the provers. `decode`, an encoder and a program are not asked of a
block; every statement is about one command, one operation or one step. -/

open Sys2Proof Sys2Proof.Machine

/-! ## The step -/

/-- A step takes the command at the front of the queue, with the rest of the queue left waiting (95, "each whole and
indivisible"). -/
def Obligations.StepRunsTheFrontCommand : Prop :=
  ∀ (c : Instr) (rest : List Instr) (s : State),
    step { s with pending := c :: rest } = exec c { s with pending := rest }

/-- With no command waiting, the clock ticks (the model's choice, log 1): the timers of both lines count down to 0, a running
capture counter counts as R98 says, and a running width counter counts up to 16,383 (R99). Nothing else changes. -/
def Obligations.IdleStepIsOneTick : Prop :=
  ∀ s : State, s.pending = [] →
    ∃ t, step s = .next t ∧
      (∀ X,
        (t.eng X).cycleTimer = (s.eng X).cycleTimer - 1 ∧ (t.eng X).slotTimer = (s.eng X).slotTimer - 1 ∧
        ((s.eng X).ranging.running = false →
          (t.eng X).ranging.count = (s.eng X).ranging.count ∧ (t.eng X).ranging.overflow = (s.eng X).ranging.overflow) ∧
        ((s.eng X).ranging.running = true →
          ((s.eng X).ranging.count < 8191 → (s.eng X).ranging.overflow ≤ 3 →
            (t.eng X).ranging.count = (s.eng X).ranging.count + 1 ∧
              (t.eng X).ranging.overflow = (s.eng X).ranging.overflow) ∧
          ((s.eng X).ranging.count = 8191 → (s.eng X).ranging.overflow < 3 →
            (t.eng X).ranging.count = 0 ∧ (t.eng X).ranging.overflow = (s.eng X).ranging.overflow + 1) ∧
          ((s.eng X).ranging.count = 8191 → (s.eng X).ranging.overflow = 3 →
            (t.eng X).ranging.count = 8191 ∧ (t.eng X).ranging.overflow = 3)) ∧
        (t.eng X).ranging.width =
          (if (s.eng X).ranging.widthRunning = true then min 16383 ((s.eng X).ranging.width + 1)
           else (s.eng X).ranging.width) ∧
        (t.eng X).joinRx =
          ((s.eng X).joinRx.map fun r => if r.bits = none then { r with width := min 16383 (r.width + 1) } else r) ∧
        t.eng X =
          { s.eng X with
            cycleTimer := (t.eng X).cycleTimer, slotTimer := (t.eng X).slotTimer, joinRx := (t.eng X).joinRx
            ranging := { (s.eng X).ranging with
              count := (t.eng X).ranging.count, overflow := (t.eng X).ranging.overflow
              width := (t.eng X).ranging.width } }) ∧
      t = { s with lineA := t.lineA, lineB := t.lineB }

/-- No command is refused, none faults, and none touches the commands that wait. -/
def Obligations.CommandsCompleteAndKeepTheQueue : Prop :=
  ∀ (c : Instr) (s : State), ∃ t, exec c s = .next t ∧ t.pending = s.pending

/-! ## Resets -/

/-- The state after a cold reset has every safety invariant. -/
def Obligations.ResetStateIsSafe : Prop :=
  State.reset.GatesOrderly ∧ State.reset.LatchHasCause ∧ State.reset.CapsLowest ∧ State.reset.OutboxBounded ∧
    State.reset.AsksOrderly ∧ State.reset.RestingContextsFree ∧ State.reset.OneContextEach ∧
    State.reset.UncertaintyBounded ∧ State.reset.AssignsBounded ∧ State.reset.QueueOrderly ∧
    State.reset.NoTraceOfFreeSlots ∧ State.reset.SourcesPresent ∧ State.reset.UnitsOrderly

/-- COLD_RESET (R20, R22, R62, R78, R96, R98, R119, R120, R136, R164, R172, R176): every block takes its cold-reset
values, the latch and the PIN cause come from ESTOP, the rate code from the straps, and STARTED (cold) is the one notice.
The pins keep their levels. The fields of a FREE record are the model's (log 9). -/
def Obligations.ColdResetValues : Prop :=
  ∀ (b1 b0 : Bool) (s : State), ∃ t, exec (.coldReset b1 b0) s = .next t ∧
    (∀ i, t.car i = Car.free ∧ (t.car i).present = false) ∧ t.wayOrder = [] ∧
    (∀ l : Fin 8, t.queue[l] = []) ∧ t.poolInUse = 0 ∧
    (∀ g, t.gate g = { source := .none, credit := 0, banking := false, placement := .tail, hold := [] }) ∧
    (∀ z, t.zone z = { lo := 0, hi := 1, cap := 254, enabled := false }) ∧
    t.way =
      { braking := 50, reaction := 15, margin := 50, carLength := 80, hysteresis := 4, radius := 300, motion := 2,
        askTimeout := 20 } ∧
    t.asks = [] ∧ t.admission = .closed ∧
    t.halt =
      { latch := s.halt.estop, pin := s.halt.estop, request := false, mode := .immediate, estop := s.halt.estop } ∧
    (∀ X,
      (t.eng X).state = .off ∧ (t.eng X).plan = { polls := 12, commands := 6, joins := 2, slotLen := 40 } ∧
      (t.eng X).params =
        { length := 30000, vf := 880, latency := 0, halfWidth := 300, guardTicks := 128, widthTol := 120, rangeTol := 20,
          shift := 2, vmax := 80, lostLimit := 8, cadence := 16, quietLimit := 32, deepDelay := 3 } ∧
      (t.eng X).staged = none ∧ (t.eng X).cycle = 0 ∧ (t.eng X).slot = .none ∧ (t.eng X).joinOpen = false ∧
      (t.eng X).idle = 0 ∧ (t.eng X).breakPending = false ∧ (t.eng X).restartPending = false ∧
      t.seat X = none ∧ (t.eng X).restOut = true ∧ (t.eng X).gainOut = 8 ∧
      (t.eng X).ranging = Ranging.idle ∧ (∀ k, t.context X k = Ctx.free) ∧ (t.eng X).faultIn = (s.eng X).faultIn) ∧
    t.link =
      { held := [], damaged := false, complete := [], rejected := 0, reply := none,
        outbox :=
          [.started false (2 * b1.toNat + b0.toNat) s.halt.estop (if s.halt.estop then .pin else .none)],
        overflow := false, mask := 511#9, rate := 2 * b1.toNat + b0.toNat, sending := none } ∧
    t.pending = s.pending ∧ t.choices = s.choices

/-- RESTART (R21, R22, R62, R78, R96, R146, R164, R172, R175): what it clears, what it keeps, and the notices, in order:
the LINE_STATEs, then (behind the reply) STARTED (warm). The fields of a FREE record are the model's (log 9). -/
def Obligations.RestartClearsAndKeeps : Prop :=
  ∀ (tag : Nat) (s : State), s.Takes 0x18 tag [] → ∃ t, exec .restart s = .next t ∧
    (∀ i, t.car i = Car.free) ∧ (∀ l : Fin 8, t.queue[l] = []) ∧ t.asks = [] ∧
    (∀ g, t.gate g = { s.gate g with credit := 0, hold := [] }) ∧
    (∀ X,
      (t.eng X).state = .off ∧ (t.eng X).staged = none ∧ (t.eng X).cycle = 0 ∧ (t.eng X).idle = 0 ∧
      (t.eng X).slot = .none ∧ (t.eng X).joinOpen = false ∧ (t.eng X).breakPending = false ∧ (t.eng X).restartPending = false ∧
      (t.eng X).burst = none ∧ (t.eng X).poll = none ∧ (t.eng X).ranging = Ranging.idle ∧
      (∀ k, t.context X k = Ctx.free) ∧ (t.eng X).params = (s.eng X).params ∧ (t.eng X).plan = (s.eng X).plan ∧
      (t.eng X).faultIn = (s.eng X).faultIn) ∧
    s.SettingsKept t ∧ t.halt = s.halt ∧
    (let stopped :=
        (if s.lineA.state = .off then [] else [Notice.lineState .A .off])
          ++ if s.lineB.state = .off then [] else [Notice.lineState .B .off]
      let before := stopped.filter fun n => s.link.mask.getLsbD n.bit
      let started :=
        [Notice.started true s.link.rate s.halt.latch (causesOf s.halt.pin s.halt.request)].filter fun n =>
          s.link.mask.getLsbD n.bit
      t.link =
        { s.link with
          complete := s.link.complete.tail
          outbox := before ++ started
          overflow := s.link.overflow || !s.link.outbox.isEmpty
          reply := some { frame := replyFrame 0x18 tag .done [], ahead := before.length } })

/-! ## The link -/

/-- A command whose event cannot occur in the state leaves the part as it is (the model's choice, log 2). Slots come in the
order of the plan (R29, R31): a slot starts, a slot ends or a cycle ends only in its turn on a line in service; a burst
completes only when one of its kind is in progress; an edge, a level or a window end acts only where a slot listens for it; a
frame is taken only while the reply holder is empty and a complete frame waits, and by the row of its own kind. -/
def Obligations.OutOfTurnCommandsChangeNothing : Prop :=
  (∀ (X : LineId) (s : State),
    let e := s.eng X
    let P := e.plan.polls
    let C := e.plan.commands
    let J := e.plan.joins
    let pollsDone := (e.slot = .mark ∧ P = 0) ∨ ∃ j, e.slot = .poll j ∧ P ≤ j ∧ e.slotOver = true
    let commandsDone := (pollsDone ∧ C = 0) ∨ ∃ j, e.slot = .command j ∧ C ≤ j
    let joinsDone := (commandsDone ∧ J = 0) ∨ ∃ j, e.slot = .join j ∧ J ≤ j ∧ e.slotOver = true
    (∀ k, s.nextSlot X = some (.poll k) ↔ s.inService X = true ∧ k ≤ P ∧ ((e.slot = .mark ∧ k = 1) ∨
      ∃ j, e.slot = .poll j ∧ e.slotOver = true ∧ k = j + 1)) ∧
    (∀ k, s.nextSlot X = some (.command k) ↔ s.inService X = true ∧ k ≤ C ∧ ((pollsDone ∧ k = 1) ∨
      ∃ j, e.slot = .command j ∧ k = j + 1)) ∧
    (∀ k, s.nextSlot X = some (.join k) ↔ s.inService X = true ∧ k ≤ J ∧ ((commandsDone ∧ k = 1) ∨
      ∃ j, e.slot = .join j ∧ e.slotOver = true ∧ k = j + 1)) ∧
    (s.cycleDone X = true ↔ s.inService X = true ∧ joinsDone) ∧
    ((∀ k, s.nextSlot X ≠ some (.poll k)) → exec (.pollSlotStart X) s = .next s) ∧
    ((∀ k, s.nextSlot X ≠ some (.command k)) → exec (.commandSlotStart X) s = .next s) ∧
    ((∀ k, s.nextSlot X ≠ some (.join k)) → exec (.joinSlotStart X) s = .next s) ∧
    (s.cycleDone X = false → exec (.cycleEnd X) s = .next s) ∧
    (∀ w bits,
      (s.inService X = false ∨ e.slotOver = true ∨ (∀ k, e.slot ≠ .poll k) → exec (.pollSlotEnd X w bits) s = .next s) ∧
      (s.inService X = false ∨ e.slotOver = true ∨ (∀ k, e.slot ≠ .join k) → exec (.joinSlotEnd X w bits) s = .next s))) ∧
  (∀ (X : LineId) (s : State),
    let e := s.eng X
    let kind := e.burst.map (·.kind)
    (kind ≠ some .mark → exec (.markBurstComplete X) s = .next s) ∧
    ((∀ w, kind ≠ some (.poll w)) ∨ e.poll = none → exec (.pollBurstComplete X) s = .next s) ∧
    ((∀ w, kind ≠ some (.drive w)) → (∀ w, kind ≠ some (.poll (some w))) ∨ e.poll = none →
      exec (.driveWordSent X) s = .next s) ∧
    (kind ≠ some .text → exec (.textFragmentSent X) s = .next s) ∧
    (kind ≠ some .assign → exec (.assignSent X) s = .next s) ∧
    (e.ranging.running = false ∨ (∀ q, e.poll = some q → q.windowOpen = false) →
      ∀ ticks, exec (.replyEdgeCapture X ticks) s = .next s) ∧
    ((∀ q, e.poll = some q → q.windowOpen = false) → exec (.replyWindowEnd X) s = .next s) ∧
    (e.poll = none ∨ e.ranging.captured = none ∨ e.ranging.level ≠ none →
      ∀ level, exec (.levelReport X level) s = .next s) ∧
    (e.poll = none ∨ e.ranging.captured = none ∨ e.ranging.body ≠ none → (∀ n, e.joinRx ≠ some { width := n, bits := none }) →
      ∀ w bits, exec (.burstTrailingEdge X w bits) s = .next s) ∧
    (e.listening = false ∨ e.joinRx ≠ none → exec (.joinEdge X) s = .next s) ∧
    (e.faultIn = true → exec (.faultInputSet X) s = .next s)) ∧
  ∀ (c : Instr) (s : State),
    (s.link.sending ≠ none ∨ (s.link.reply = none ∧ s.link.outbox = []) → exec .frameSendStart s = .next s) ∧
    (s.link.sending = none → exec .frameSendEnd s = .next s) ∧
    (requestKind c ≠ none ∨ c = .unknownKindFrame → s.link.reply ≠ none ∨ s.link.complete = [] → exec c s = .next s) ∧
    (∀ tag m, m.toNat ≤ 1 →
      (s.TakesFrame { kind := 0x15, tag := tag, payload := [1#8, m] } → exec .allStopStop s = .next s) ∧
      (s.TakesFrame { kind := 0x15, tag := tag, payload := [0#8, m] } → exec .allStopMode s = .next s)) ∧
    ∀ (k : Nat) (f : Frame), s.TakesFrame f →
      (requestKind c = some k → f.kind ≠ k → exec c s = .next s) ∧
      (c = .unknownKindFrame → 1 ≤ f.kind → f.kind ≤ 0x18 → exec c s = .next s)

/-- Checks 1 to 3 of R168: a kind that is no request kind is refused with BAD_KIND, in a reply of kind 0x80 that carries
the code and the kind; a payload of a size the kind does not allow is refused with BAD_LENGTH; and else a tag of 0 with
BAD_ARG. Nothing else changes. The reply to an unknown kind carries the tag received, even 0 (log
16). -/
def Obligations.KindSizeAndTagAreChecked : Prop :=
  (∀ (s : State) (f : Frame), s.TakesFrame f → f.kind = 0 ∨ 0x18 < f.kind → f.kind < 256 →
    exec .unknownKindFrame s =
      .next { s with
        link := { s.link with
          complete := s.link.complete.tail
          reply := some {
              frame := { kind := 0x80, tag := f.tag, payload := [2#8, BitVec.ofNat 8 f.kind] }
              ahead := s.link.outbox.length } } }) ∧
  ∀ (c : Instr) (s : State) (f : Frame), requestKind c = some f.kind → s.TakesFrame f →
    (¬ sizeAllowed f.kind f.payload → exec c s = .next (s.answered f.kind f.tag .badLength [])) ∧
    (sizeAllowed f.kind f.payload → f.tag = 0 →
      (c = .allStopStop → byteAt f.payload 0 ≠ 1) → (c = .allStopMode → byteAt f.payload 0 ≠ 0) →
      exec c s = .next (s.answered f.kind 0 .badArg []))

/-- IDENT (R173): the reply carries the characters R2L, the revision 1, the rate code and the capacities, and nothing else
changes. -/
def Obligations.IdentIdentifies : Prop :=
  ∀ (tag : Nat) (s : State), s.Takes 0x01 tag [] →
    exec .ident s =
      .next (s.answered 0x01 tag .done
        [0x52#8, 0x32#8, 0x4C#8, 1#8, BitVec.ofNat 8 s.link.rate, 48#8, 6#8, 16#8, 8#8, 40#8, 4#8, 32#8])

/-- STATUS (R174): the reply carries the lines, the way parameters, the queue, the admission mode and the asks, the halt block
and the link as they stand, each number in the fewest bytes or in those of its request; the overflow flag and the
rejected-frame count are then cleared, and nothing else changes. Widths, flags and the mark of an absent staged plan are as
log 15 says. -/
def Obligations.StatusReportsAndClears : Prop :=
  ∀ (tag : Nat) (s : State), s.Takes 0x02 tag [] →
    let num := fun n k : Nat => (List.range n).map fun j => BitVec.ofNat 8 (k / 256 ^ j)
    let yes := fun b : Bool => if b then [1#8] else [0#8]
    let plan := fun p : Plan => num 1 p.polls ++ num 1 p.commands ++ num 1 p.joins ++ num 1 p.slotLen
    let line := fun X : LineId =>
      let e := s.eng X
      let p := e.params
      num 1 (match e.state with | .off => 0 | .run => 1 | .quiet => 2 | .fault => 3) ++ yes e.faultIn ++
        num 2 p.length ++ num 2 p.vf ++ num 2 p.latency ++ num 2 p.halfWidth ++ num 1 p.guardTicks ++ num 2 p.widthTol ++
        num 1 p.rangeTol ++ num 1 p.shift ++ num 1 p.vmax ++ num 1 p.lostLimit ++ num 1 p.cadence ++
        num 1 p.quietLimit ++ num 1 p.deepDelay ++ plan e.plan ++
        (match e.staged with | some q => 1#8 :: plan q | none => [0#8, 255#8, 255#8, 255#8, 255#8]) ++
        num 2 e.cycle ++ num 1 e.idle ++ yes e.breakPending ++ yes e.restartPending ++
        num 1 ((List.finRange 6).filter fun k => (s.context X k).owner.isSome).length ++
        num 1 (match s.seat X with | some (i, _) => i.val | none => 255)
    let texts := (s.entries.filter fun e => e.job.isText).length
    let queue :=
      ((List.finRange 8).map fun l : Fin 8 => num 1 (s.queue[l]).length).flatten ++
        num 1 (s.entries.filter fun e => e.job.isPoll).length ++ num 1 (s.entries.filter fun e => e.job.isDrive).length ++
        num 1 texts ++ num 1 (s.entries.filter Entry.isAssign).length ++
        num 1 (texts + ((List.finRange 48).filter fun i => (s.car i).present && (s.car i).textAwait.isSome).length +
          ((List.finRange 8).map fun g => (s.gate g).hold.length).sum)
    let way := num 2 s.way.braking ++ num 1 s.way.reaction ++ num 2 s.way.margin ++ num 2 s.way.carLength ++
      num 1 s.way.hysteresis ++ num 2 s.way.radius ++ num 1 s.way.motion ++ num 1 s.way.askTimeout
    let asks := num 1 s.asks.length ++
      (s.asks.map fun a => num 3 a.unitId ++ num 1 (if a.line = .A then 0 else 1) ++ num 1 a.cyclesLeft).flatten
    let halt := yes s.halt.latch ++ yes s.halt.pin ++ yes s.halt.request ++
      num 1 (if s.halt.mode = .immediate then 0 else 1) ++ yes s.halt.estop ++
      num 1 ((List.finRange 48).filter fun i => (s.car i).present && decide ((s.car i).release ≠ .none)).length
    let link := num 2 s.link.mask.toNat ++ num 1 s.link.outbox.length ++ yes s.link.overflow ++ num 1 s.link.rejected
    exec .status s =
      .next (({ s with link := { s.link with overflow := false, rejected := 0 } } : State).answered 0x02 tag .done
        (line .A ++ line .B ++ way ++ queue ++ num 1 (if s.admission = .opened then 0 else 1) ++ asks ++ halt ++ link))

/-- NOTICE_MASK (R171): a mask with any of bits 9 to 15 set is refused with BAD_ARG; otherwise it is the mask in force. A
notice of a disabled kind is not generated; else it joins the tail of the outbox, or is discarded with the overflow flag
set when the outbox holds 32 (R170, R172). -/
def Obligations.NoticesFollowTheMask : Prop :=
  (∀ (k : Link) (n : Notice),
    (k.mask.getLsbD n.bit = false → k.notify n = k) ∧
    (k.mask.getLsbD n.bit = true → k.outbox.length < 32 → k.notify n = { k with outbox := k.outbox ++ [n] }) ∧
    (k.mask.getLsbD n.bit = true → 32 ≤ k.outbox.length → k.notify n = { k with overflow := true })) ∧
  ∀ (tag : Nat) (m0 m1 : Byte) (s : State), s.Takes 0x17 tag [m0, m1] →
    (m1.toNat ≤ 1 →
      exec .noticeMask s =
        .next (({ s with link := { s.link with mask := (m1 ++ m0).setWidth 9 } } : State).answered 0x17 tag .done [m0, m1])) ∧
    (2 ≤ m1.toNat → exec .noticeMask s = .next (s.answered 0x17 tag .badArg []))

/-- FRAME_SEND_START and FRAME_SEND_END (R169): the frame generated first goes out; a notice leaves the outbox then, and the
reply holder empties when the reply has gone out. Nothing outside the link changes. -/
def Obligations.FramesLeaveInOrder : Prop :=
  ∀ s : State,
    (∀ n rest, s.link.sending = none → s.link.outbox = n :: rest →
      (s.link.reply = none →
        exec .frameSendStart s =
          .next { s with link := { s.link with outbox := rest, sending := some { frame := n.frame, isReply := false } } }) ∧
      ∀ r, s.link.reply = some r → 0 < r.ahead →
        exec .frameSendStart s =
          .next { s with
            link := { s.link with
              outbox := rest, sending := some { frame := n.frame, isReply := false },
              reply := some { r with ahead := r.ahead - 1 } } }) ∧
    (∀ r, s.link.sending = none → s.link.reply = some r → r.ahead = 0 ∨ s.link.outbox = [] →
      exec .frameSendStart s = .next { s with link := { s.link with sending := some { frame := r.frame, isReply := true } } }) ∧
    (∀ x, s.link.sending = some x →
      exec .frameSendEnd s =
        .next { s with link := { s.link with sending := none, reply := if x.isReply then none else s.link.reply } })

/-- FRAME_COMPLETE (R165, R166): while the receiver hunts with an empty hand and the buffer has room, the bytes of any
frame complete that frame, and nothing else changes. One command brings all the characters of the frame (log 14). -/
def Obligations.FrameBytesCompleteTheFrame : Prop :=
  ∀ (s : State) (f : Frame), f.kind < 256 → f.tag < 256 → f.payload.length ≤ 256 →
    s.link.held = [] → s.link.damaged = false → s.link.used + f.size ≤ 512 →
    exec (.frameComplete (f.bytes.map fun b => { byte := b })) s =
      .next { s with link := { s.link with complete := s.link.complete ++ [f] } }

/-- FRAME_REJECTED (R166, R167): a length outside 2 to 258 rejects the frame at once, and its length bytes are scanned again
and, holding no sync byte, skipped. A frame read to its end by its length is rejected when a byte of it was dropped, when one
of its bytes had a framing error, or when its check differs; its other bytes, holding no sync byte, are then skipped. Each
rejection raises the count by 1, up to 255. A byte that arrives while the buffer is full is dropped and damages the frame
being received. While hunting, a byte that is no sync byte, or has a framing error, is skipped. The bytes held are worked
through at once, and a dropped byte does not count toward the length (log 14). -/
def Obligations.BadFramesAreRejected : Prop :=
  (∀ (s : State) (l0 l1 : Byte), s.link.held = [] → s.link.damaged = false → s.link.used + 3 ≤ 512 →
    (l0.toNat + 256 * l1.toNat < 2 ∨ 258 < l0.toNat + 256 * l1.toNat) → l0 ≠ 0xA5#8 → l1 ≠ 0xA5#8 →
    exec (.frameRejected [{ byte := 0xA5#8 }, { byte := l0 }, { byte := l1 }]) s =
      .next { s with link := { s.link with rejected := min 255 (s.link.rejected + 1) } }) ∧
  (∀ (s : State) (cs : List RxChar) (l0 l1 c0 c1 : RxChar) (body : List RxChar),
    s.link.held ++ cs = { byte := 0xA5#8, stopOk := true } :: l0 :: l1 :: (body ++ [c0, c1]) → cs ≠ [] →
    s.link.used + cs.length ≤ 512 →
    body.length = l0.byte.toNat + 256 * l1.byte.toNat → 2 ≤ body.length → body.length ≤ 258 →
    (∀ c ∈ l0 :: l1 :: (body ++ [c0, c1]), c.stopOk = true → c.byte ≠ 0xA5#8) →
    s.link.damaged = true ∨ (∃ c ∈ l0 :: l1 :: (body ++ [c0, c1]), c.stopOk = false) ∨
      (crc16 ((l0 :: l1 :: body).map (·.byte))).toNat ≠ c0.byte.toNat + 256 * c1.byte.toNat →
    exec (.frameRejected cs) s =
      .next { s with
        link := { s.link with held := [], damaged := false, rejected := min 255 (s.link.rejected + 1) } }) ∧
  ∀ (s : State) (c : RxChar),
    (512 ≤ s.link.used →
      exec (.frameRejected [c]) s =
        .next { s with link := { s.link with damaged := s.link.damaged || decide (s.link.held ≠ []) } } ∧
      exec (.frameComplete [c]) s =
        .next { s with link := { s.link with damaged := s.link.damaged || decide (s.link.held ≠ []) } }) ∧
    (s.link.held = [] → s.link.damaged = false → s.link.used < 512 → c.stopOk = false ∨ c.byte ≠ 0xA5#8 →
      exec (.frameComplete [c]) s = .next s)

/-! ## Pins and the halt latch -/

/-- A release of ESTOP and a fault input that clears change the level and nothing else (R158, R26). While the latch is set, an
assertion of ESTOP and an ALL_STOP STOP add their cause, and no line is stopped again and no notice queued; ALL_STOP MODE
sets the halt mode alone; an action or mode that is none of the named values is refused with BAD_ARG (R158, R168). A malformed
ALL_STOP is taken by either of its rows (log 21). -/
def Obligations.ReleasesAndFurtherCausesStopNothing : Prop :=
  (∀ s : State,
    exec .estopRelease s = .next { s with halt := { s.halt with estop := false } } ∧
    ∀ X, exec (.faultInputClear X) s = .next (s.setEng X { s.eng X with faultIn := false })) ∧
  (∀ (tag : Nat) (a m : Byte) (s : State), s.Takes 0x15 tag [a, m] → 2 ≤ a.toNat ∨ 2 ≤ m.toNat →
    exec .allStopStop s = .next (s.answered 0x15 tag .badArg []) ∧
    exec .allStopMode s = .next (s.answered 0x15 tag .badArg [])) ∧
  ∀ s : State,
    (s.halt.latch = true → s.halt.estop = false →
      exec .estopAssert s = .next { s with halt := { s.halt with estop := true, pin := true } }) ∧
    (s.halt.estop = true → exec .estopAssert s = .next s) ∧
    ∀ (tag : Nat) (m : Byte), m.toNat ≤ 1 →
      (s.halt.latch = true → s.Takes 0x15 tag [0#8, m] →
        exec .allStopStop s =
          .next (({ s with halt := { s.halt with request := true } } : State).answered 0x15 tag .done [])) ∧
      (s.Takes 0x15 tag [1#8, m] →
        exec .allStopMode s =
          .next (({ s with
            halt := { s.halt with mode := if m = 0#8 then .immediate else .slotBound } } : State).answered 0x15 tag
              .done []))

/-- The setting of the latch (R39, R58, R59, R158 to R161): ALL_STOP STOP sets the REQUEST cause and is answered DONE, ESTOP
sets the PIN cause. The HALT notice is first and no TEXT stays seated. In both, a line in service stops at once by the mode
and its burst, with a cycle end and a cycle start, or else has its restart pending while its slot runs out; a line out of
service is not touched; the entries of a line that stopped at once stay queued and are free, a cut POLL the first of its
level. A line that stops at once with a restart pending is restarted once (log 28), and the lines stop in either order (log
4). -/
def Obligations.EstopAndAllStopSetTheLatch : Prop :=
  (∀ (tag : Nat) (m : Byte) (s : State), s.Takes 0x15 tag [0#8, m] → m.toNat ≤ 1 → s.halt.latch = false →
    ∃ t, exec .allStopStop s = .next t ∧ s.Answers t 0x15 tag .done [] ∧
      t.halt = { s.halt with latch := true, request := true } ∧
      (s.link.notify (.halt true .request)).outbox <+: t.link.outbox ∧ s.LinesStopped t ∧ s.SettingsKept t) ∧
  ∀ s : State, s.halt.latch = false → s.halt.estop = false → ∃ t, exec .estopAssert s = .next t ∧
    t.halt = { s.halt with latch := true, pin := true, estop := true } ∧
    (s.link.notify (.halt true .pin)).outbox <+: t.link.outbox ∧ s.LinesStopped t ∧ s.SettingsKept t ∧ s.LinkKept t

/-- RESUME (R142, R162, R163): refused with STOP_ACTIVE while ESTOP is asserted; DONE with no change when the latch is clear;
otherwise the latch and both causes clear after a HALT notice with the causes as they stood, every HALT_END gate opens once
and no other gate changes, and every car has its release owed and a DRIVE queued at level 3 or at the more urgent level of
the cap comparison. -/
def Obligations.ResumeReleasesEveryCar : Prop :=
  ∀ (tag : Nat) (s : State), s.Takes 0x16 tag [] →
    (s.halt.estop = true → exec .resume s = .next (s.answered 0x16 tag .stopActive [])) ∧
    (s.halt.estop = false → s.halt.latch = false → exec .resume s = .next (s.answered 0x16 tag .done [])) ∧
    (s.halt.estop = false → s.halt.latch = true → ∃ t, exec .resume s = .next t ∧ s.Answers t 0x16 tag .done [] ∧
      t.halt = { s.halt with latch := false, pin := false, request := false } ∧
      t.link.outbox = (s.link.notify (.halt false (causesOf s.halt.pin s.halt.request))).outbox ∧
      (∀ i, (s.car i).present = true → (t.car i).release = .owed ∧
        ∃ l : Fin 8, l ≤ 3 ∧ (∃ e ∈ t.queue[l], e.job = .drive i) ∧
          ((t.car i).effectiveCap < (t.car i).confirmedCap → l ≤ 1) ∧
          ((t.car i).effectiveCap = 0 → (t.car i).gapCap = some 0 → 0 < (t.car i).confirmedCap → l = 0)) ∧
      s.GatesOpened t (fun src => src = .haltEnd) ∧
      (∀ i, (t.car i).state = (s.car i).state ∧ (t.car i).position = (s.car i).position ∧
        (t.car i).uncertainty = (s.car i).uncertainty ∧ (t.car i).driveSeqSent = (s.car i).driveSeqSent ∧
        (t.car i).confirmedCap = (s.car i).confirmedCap) ∧
      s.LinesKept t ∧ s.SettingsKept t ∧ t.asks = s.asks)

/-! ## Lines -/

/-- FAULT_INPUT_SET (R7, R10, R26, R27, R39, R58, R59): a line out of service keeps its state; a line in service goes to FAULT
with the departure: its engine, its contexts, the queue, the cars and the notices are as the departure leaves them. Each car
of a departure is taken whole before the next (log 17). -/
def Obligations.FaultInputTakesTheLineDown : Prop :=
  ∀ (X : LineId) (s : State),
    (s.inService X = false → exec (.faultInputSet X) s = .next (s.setEng X { s.eng X with faultIn := true })) ∧
    (s.inService X = true → (s.eng X).faultIn = false → ∃ t, exec (.faultInputSet X) s = .next t ∧
      s.Departed t X .fault ∧ s.EntriesCut t X ∧ s.CarsTakenDown t X ∧ (t.eng X).faultIn = true ∧ s.LinkKept t ∧
      s.SettingsKept t ∧ t.halt = s.halt ∧ t.asks = s.asks)

/-- LINE_STOP (R7, R10, R25, R27, R39, R58, R59): a line byte of 2 or more is refused with BAD_ARG (R168); an OFF line stays
as it is; a line in FAULT becomes OFF with its notice and no departure; a line in service becomes OFF with the departure: its
engine, its contexts, the queue, the cars and the notices are as the departure leaves them. Each car of a departure is taken
whole before the next (log 17). -/
def Obligations.LineStopTakesTheLineDown : Prop :=
  (∀ (tag : Nat) (b : Byte) (s : State), s.Takes 0x05 tag [b] → 2 ≤ b.toNat →
    exec .lineStop s = .next (s.answered 0x05 tag .badArg [])) ∧
  ∀ (tag : Nat) (X : LineId) (s : State), s.Takes 0x05 tag [BitVec.ofNat 8 (lineCode X)] →
    ((s.eng X).state = .off → exec .lineStop s = .next (s.answered 0x05 tag .done [])) ∧
    ((s.eng X).state = .fault → ∃ t, exec .lineStop s = .next t ∧ s.Answers t 0x05 tag .done [] ∧
      t.eng X = { s.eng X with state := .off } ∧ t.eng (otherLine X) = s.eng (otherLine X) ∧
      t.link.outbox = (s.link.notify (.lineState X .off)).outbox ∧ t.cars = s.cars ∧ t.queue = s.queue ∧
      t.gates = s.gates ∧ s.SettingsKept t ∧ t.halt = s.halt ∧ t.asks = s.asks) ∧
    (s.inService X = true → ∃ t, exec .lineStop s = .next t ∧ s.Answers t 0x05 tag .done [] ∧
      s.Departed t X .off ∧ s.EntriesCut t X ∧ s.CarsTakenDown t X ∧ (t.eng X).faultIn = (s.eng X).faultIn ∧
      s.SettingsKept t ∧ t.halt = s.halt ∧ t.asks = s.asks)

/-- LINE_START (R24, R31, R33): a line byte of 2 or more is refused with BAD_ARG (R168); refused with LINE_FAULT on a
line out of service with its fault input set; DONE with no change on a line in service; otherwise the line is RUN with
its notice first (ahead of the timed-out notices by the model's choice, log 32), and its first cycle has begun: the staged
plan is active, the cycle number is raised by 1, and the mark is being sent; the roster generates the POLLs that are due, at
the interval and the level of the car's state and grant (R12, R13, R43), and the line's asks are counted, with a CAR_JOIN
timed-out for each that ends, in list order (R75, log 17). -/
def Obligations.LineStartBeginsACycle : Prop :=
  (∀ (tag : Nat) (b : Byte) (s : State), s.Takes 0x04 tag [b] → 2 ≤ b.toNat →
    exec .lineStart s = .next (s.answered 0x04 tag .badArg [])) ∧
  (∀ c : Car,
    (c.state = .joining ∨ c.state = .missing → c.pollInterval = 1) ∧ (c.state = .lost → c.pollInterval = 4) ∧
    (c.state = .heard →
      c.pollInterval = (match c.grantedDoze with | .awake => 1 | .light => 4 | .deep => 16 | .parked => 64)) ∧
    (let first := c.state = .joining ∨ c.state = .missing ∨ c.gapCap ≠ none
     (first → c.pollLevel = 3) ∧ (¬ first → c.state = .lost → c.pollLevel = 6) ∧
      (¬ first → c.state = .heard →
        c.pollLevel = if c.grantedDoze = .awake ∨ c.grantedDoze = .light then 4 else 6))) ∧
  ∀ (tag : Nat) (X : LineId) (s : State), s.Takes 0x04 tag [BitVec.ofNat 8 (lineCode X)] →
    (s.inService X = true → exec .lineStart s = .next (s.answered 0x04 tag .done [])) ∧
    (s.inService X = false → (s.eng X).faultIn = true →
      exec .lineStart s = .next (s.answered 0x04 tag .lineFault [])) ∧
    (s.inService X = false → (s.eng X).faultIn = false → ∃ t, exec .lineStart s = .next t ∧
      s.Answers t 0x04 tag .done [] ∧
      (s.link.notify (.lineState X .run)).outbox <+: t.link.outbox ∧
      (t.eng X).state = .run ∧ (t.eng X).slot = .mark ∧ (t.eng X).cycle = ((s.eng X).cycle + 1) % 65536 ∧
      (t.eng X).plan = (s.eng X).staged.getD (s.eng X).plan ∧ (t.eng X).staged = none ∧
      (t.eng X).joinOpen = (decide (0 < (t.eng X).plan.joins) && !s.halt.latch) ∧
      (t.eng X).cycleTimer = (1 + (t.eng X).plan.polls + (t.eng X).plan.commands + (t.eng X).plan.joins) *
        ((t.eng X).plan.slotLen * 10000) ∧
      (t.eng X).burst =
        some {
          kind := .mark
          bits := withCheck (markBody X (t.eng X).cycle (t.eng X).plan s.halt.latch (t.eng X).joinOpen) } ∧
      (t.eng X).breakPending = false ∧ (t.eng X).idle = (s.eng X).idle ∧ (t.eng X).params = (s.eng X).params ∧
      (t.eng X).ctx = (s.eng X).ctx ∧ (t.eng X).faultIn = (s.eng X).faultIn ∧
      (∀ i,
        ((s.car i).present = true → (s.car i).home.countingLine = X → s.hasPoll i = false →
          ((s.car i).countdown = 0 →
            t.car i = { s.car i with countdown := (s.car i).pollInterval - 1 } ∧
              ∃ e ∈ t.queue[(s.car i).pollLevel], e.job = .poll i) ∧
          ((s.car i).countdown ≠ 0 →
            t.car i = { s.car i with countdown := (s.car i).countdown - 1 } ∧ t.hasPoll i = false)) ∧
        ((s.car i).present = false ∨ (s.car i).home.countingLine ≠ X ∨ s.hasPoll i = true →
          t.car i = s.car i ∧ t.hasPoll i = s.hasPoll i)) ∧
      s.QueueKeptBut t (fun e => e.job.isPoll) ∧
      s.AsksCounted t X ∧
      t.eng (otherLine X) = s.eng (otherLine X) ∧ t.gates = s.gates ∧ s.SettingsKept t ∧ t.halt = s.halt)

/-- LINE_CONFIG (R23, R95): a line byte of 2 or more is refused with BAD_ARG (R168); refused with LINE_BUSY, and nothing
applied, when the line is not OFF and length, velocity factor or latency would change; otherwise every value is applied, a
value outside its range at the nearest bound (R22), and a change of one of those three clears the line's parked states. -/
def Obligations.LineConfigIsClampedAndApplied : Prop :=
  (∀ p : LineParams, p.clamped =
    { length := nearest 1000 50000 p.length, vf := nearest 600 999 p.vf, latency := nearest 0 1023 p.latency
      halfWidth := nearest 50 2000 p.halfWidth, guardTicks := nearest 0 255 p.guardTicks
      widthTol := nearest 10 400 p.widthTol, rangeTol := nearest 0 200 p.rangeTol, shift := nearest 0 3 p.shift
      vmax := nearest 0 255 p.vmax, lostLimit := nearest 1 255 p.lostLimit, cadence := nearest 0 255 p.cadence
      quietLimit := nearest 1 255 p.quietLimit, deepDelay := nearest 0 15 p.deepDelay }) ∧
  (∀ (tag : Nat) (b : Byte) (p : List Byte) (s : State), p.length = 18 → s.Takes 0x03 tag (b :: p) → 2 ≤ b.toNat →
    exec .lineConfig s = .next (s.answered 0x03 tag .badArg [])) ∧
  ∀ (tag : Nat) (X : LineId) (p : List Byte) (s : State), p.length = 18 →
    s.Takes 0x03 tag (BitVec.ofNat 8 (lineCode X) :: p) →
    let asked := lineParamsOf (0#8 :: p)
    let new := asked.clamped
    let same := new.length = (s.eng X).params.length ∧ new.vf = (s.eng X).params.vf ∧
      new.latency = (s.eng X).params.latency
    ((s.eng X).state ≠ .off → ¬ same → exec .lineConfig s = .next (s.answered 0x03 tag .lineBusy [])) ∧
    ((s.eng X).state = .off ∨ same → ∃ t, exec .lineConfig s = .next t ∧
      s.Answers t 0x03 tag (if new = asked then .done else .doneClamped) [] ∧ t.link.outbox = s.link.outbox ∧
      t.link.overflow = s.link.overflow ∧
      t.eng X = { s.eng X with params := new } ∧ t.eng (otherLine X) = s.eng (otherLine X) ∧
      (same → t.cars = s.cars) ∧
      (¬ same → ∀ i, t.car i = (s.car i).setParked X none) ∧
      t.queue = s.queue ∧ t.gates = s.gates ∧ t.asks = s.asks ∧ t.halt = s.halt ∧ s.SettingsKept t)

/-- PLAN_STAGE (R29, R30): a line byte of 2 or more (R168) or a value outside its range is refused with BAD_ARG; on a line out
of service the plan is active at once and nothing is staged; on a line in service it is staged. -/
def Obligations.PlanStageByLineState : Prop :=
  (∀ (tag : Nat) (b P C J L : Byte) (s : State), s.Takes 0x06 tag [b, P, C, J, L] → 2 ≤ b.toNat →
    exec .planStage s = .next (s.answered 0x06 tag .badArg [])) ∧
  ∀ (tag : Nat) (X : LineId) (P C J L : Byte) (s : State), s.Takes 0x06 tag [BitVec.ofNat 8 (lineCode X), P, C, J, L] →
    let plan : Plan := { polls := P.toNat, commands := C.toNat, joins := J.toNat, slotLen := L.toNat }
    let good := 1 ≤ P.toNat ∧ P.toNat ≤ 24 ∧ C.toNat ≤ 16 ∧ J.toNat ≤ 4 ∧ 10 ≤ L.toNat ∧ L.toNat ≤ 100
    (¬ good → exec .planStage s = .next (s.answered 0x06 tag .badArg [])) ∧
    (good → s.inService X = false →
      exec .planStage s = .next ((s.setEng X { s.eng X with plan := plan, staged := none }).answered 0x06 tag .done [])) ∧
    (good → s.inService X = true →
      exec .planStage s = .next ((s.setEng X { s.eng X with staged := some plan }).answered 0x06 tag .done []))

/-- CYCLE_END (R12, R13, R28, R31, R33, R40, R43, R75, R112, R113, R129, R130, R142, R153, R154): when the last slot of the
cycle is done, the cycle ends and the next one starts: the idle counter, the growth, the gap evaluation with its CAP_CHANGE
notices, the opens of the CYCLE_END gates, the plan swap, the cycle number, the line state with its notice, join-open, the
timer and the mark, the POLLs that are due, and the asks with their CAR_JOIN timed-out notices. A restart pending is taken in
place of the resolution, here and at the end of any slot before (R160, R161): the line restarts in RUN after the slot's own
result, with the effects of a cycle end and a cycle start. At such a restart join-open is no, also once a
RESUME has cleared the latch (that R162 does not set R161 aside is the model's reading, log 13). It holds whatever order the
effects of the end and of the start are taken in (log 4); the asks that time out are notified in list order (log 17). -/
def Obligations.CycleEndStartsTheNextCycle : Prop :=
  (∀ (X : LineId) (s : State), s.cycleDone X = true → (s.eng X).burst = none →
    ∃ t, exec (.cycleEnd X) s = .next t ∧
      ((s.eng X).restartPending = true → s.RestartTaken t X) ∧
      (t.eng X).idle = (if (s.eng X).traffic then 0 else min 255 ((s.eng X).idle + 1)) ∧
      (t.eng X).cycle = ((s.eng X).cycle + 1) % 65536 ∧
      (t.eng X).plan = (s.eng X).staged.getD (s.eng X).plan ∧ (t.eng X).staged = none ∧
      (t.eng X).slot = .mark ∧ (t.eng X).traffic = false ∧ (t.eng X).restartPending = false ∧
      (t.eng X).cycleTimer = (1 + (t.eng X).plan.polls + (t.eng X).plan.commands + (t.eng X).plan.joins) *
        ((t.eng X).plan.slotLen * 10000) ∧
      (t.eng X).breakPending = false ∧
      ((s.eng X).breakPending = true → (t.eng X).state = .run) ∧
      ((s.eng X).state = .run → s.halt.latch = true → (t.eng X).state = .run) ∧
      ((s.eng X).breakPending = false → (s.eng X).restartPending = false →
        (∀ g, (s.gate g).source ≠ .cycleEnd X) →
        (∀ i, (s.car i).present = true → (s.car i).home.includes X = true → (s.car i).listening = false) →
        ((s.eng X).state = .quiet → (t.eng X).state = .quiet) ∧
        ((s.eng X).state = .run → s.halt.latch = false →
          (∀ i, (s.car i).present = true → (s.car i).home.includes X = true → (s.car i).grantedDoze.isDeep = true) →
          (s.eng X).params.quietLimit ≤ (t.eng X).idle → (∀ a ∈ s.asks, a.line ≠ X) → (t.eng X).state = .quiet)) ∧
      ((s.eng X).state = .run →
        (∃ i, (s.car i).present = true ∧ (s.car i).home.includes X = true ∧ (s.car i).grantedDoze.isDeep = false) ∨
          (t.eng X).idle < (s.eng X).params.quietLimit →
        (t.eng X).state = .run) ∧
      (t.link.overflow = false →
        s.queuedSince t (fun n => n.bit == 8) =
          (if (t.eng X).state = (s.eng X).state then [] else s.enabled [.lineState X (t.eng X).state])) ∧
      (t.eng X).joinOpen =
        (!(s.eng X).restartPending && decide (0 < (t.eng X).plan.joins) && !s.halt.latch &&
          ((t.eng X).state == .run || decide ((t.eng X).cycle % 8 = 0))) ∧
      (t.eng X).burst =
        some {
          kind := .mark
          bits := withCheck (markBody X (t.eng X).cycle (t.eng X).plan s.halt.latch (t.eng X).joinOpen) } ∧
      (t.eng X).params = (s.eng X).params ∧ (t.eng X).ctx = (s.eng X).ctx ∧
      (t.eng (otherLine X)).unbroken = (s.eng (otherLine X)).unbroken ∧
      (∀ i, (t.car i).state = (s.car i).state ∧ (t.car i).position = (s.car i).position ∧
        (t.car i).home = (s.car i).home ∧ (t.car i).missCount = (s.car i).missCount) ∧
      (∀ i, (s.car i).present = true → (s.car i).home.countingLine = X →
        s.GrownAt t X i ∧
        ((∀ g, (s.gate g).source ≠ .cycleEnd X) → (s.car i).speed = 0 → (s.car i).grantedDoze.isDeep = true →
          (t.car i).uncertainty = (s.car i).uncertainty)) ∧
      (∀ i, (s.car i).present = true → (s.car i).home.countingLine ≠ X →
        (t.car i).heardMark = (s.car i).heardMark ∧ (t.car i).uncertainty = (s.car i).uncertainty) ∧
      s.PollsGenerated t X ∧ s.CycleTurned t X ∧ s.LinkKept t ∧ s.SettingsKept t ∧ t.halt = s.halt) ∧
  ∀ (X : LineId) (s : State), (s.eng X).burst = none → (s.eng X).restartPending = true →
    (∀ k, s.nextSlot X = some (.poll k) → ∃ t, exec (.pollSlotStart X) s = .next t ∧ s.RestartTaken t X) ∧
    (∀ k, s.nextSlot X = some (.command k) → ∃ t, exec (.commandSlotStart X) s = .next t ∧ s.RestartTaken t X) ∧
    (∀ k, s.nextSlot X = some (.join k) → ∃ t, exec (.joinSlotStart X) s = .next t ∧ s.RestartTaken t X) ∧
    ∀ w bits,
      (s.inPollSlot X = true → (s.eng X).poll = none → ∃ t, exec (.pollSlotEnd X w bits) s = .next t ∧
        s.RestartTaken t X) ∧
      (s.inJoinSlot X = true → (s.eng X).joinRx = none → ∃ t, exec (.joinSlotEnd X w bits) s = .next t ∧
        s.RestartTaken t X) ∧
      ∀ q reason, s.inPollSlot X = true → (s.eng X).poll = some q → s.slotClass X q w bits = .miss reason →
        (s.car q.car).state ≠ .joining → ∃ t, exec (.pollSlotEnd X w bits) s = .next t ∧ s.RestartTaken t X ∧
          (t.car q.car).missCount = min 255 ((s.car q.car).missCount + 1) ∧
          (t.car q.car).clashCount =
            (if reason = .clash then min 255 ((s.car q.car).clashCount + 1) else (s.car q.car).clashCount) ∧
          ((s.car q.car).state = .heard ∨ (s.car q.car).state = .missing →
            (t.car q.car).state =
              if (s.eng X).params.lostLimit ≤ min 255 ((s.car q.car).missCount + 1) then .lost else .missing)

/-! ## The way, zones and gates -/

/-- WAY_CONFIG (R119): every value is applied, a value outside its range at the nearest bound. With none of the five gap
parameters changed nothing else changes; otherwise a gap evaluation follows, from the new values: every car of the way order
takes its gap cap and effective cap, with the CAP_CHANGE notices in slot order (R125 to R131). -/
def Obligations.WayConfigIsClampedAndApplied : Prop :=
  (∀ w : WayParams, w.clamped =
    { braking := nearest 20 300 w.braking, reaction := nearest 0 50 w.reaction, margin := nearest 0 1000 w.margin
      carLength := nearest 0 300 w.carLength, hysteresis := nearest 0 20 w.hysteresis
      radius := nearest 0 1000 w.radius, motion := nearest 1 100 w.motion
      askTimeout := nearest 5 250 w.askTimeout }) ∧
  ∀ (tag : Nat) (p : List Byte) (s : State), p.length = 12 → s.Takes 0x07 tag p →
    let asked := wayParamsOf p
    let new := asked.clamped
    let code := if new = asked then Code.done else Code.doneClamped
    let same := new.braking = s.way.braking ∧ new.reaction = s.way.reaction ∧ new.margin = s.way.margin ∧
      new.carLength = s.way.carLength ∧ new.hysteresis = s.way.hysteresis
    let u : State := { s with way := new }
    (same → exec .wayConfig s = .next (u.answered 0x07 tag code [])) ∧
    (¬ same → ∃ t, exec .wayConfig s = .next t ∧ s.Answers t 0x07 tag code [] ∧ t.way = new ∧
      s.GapsEvaluated u t ∧
      (∀ i, t.car i =
        { s.car i with gapCap := (t.car i).gapCap, effectiveCap := (t.car i).effectiveCap }) ∧
      (∀ i, i ∉ s.wayOrder → t.car i = s.car i) ∧
      t.link.outbox =
        ((allCars.filterMap fun i => capChange i (s.car i).gapCap (t.car i).gapCap).foldl Link.notify s.link).outbox ∧
      s.LinesKept t ∧ t.zones = s.zones ∧ t.gates = s.gates ∧ t.asks = s.asks ∧ t.halt = s.halt ∧
      t.admission = s.admission ∧ t.pending = s.pending)

/-- ZONE_WRITE (R120, R122, R123, R131, R142): refused with BAD_ARG in the listed cases; otherwise the zone takes its fields, and
every car's touch set holds exactly the enabled zones its span touches, its zone cap is the lowest of theirs (255 with
none), and its effective cap is the lowest of its three; each zone that joins a car's set opens the gates of that car and
zone. -/
def Obligations.ZoneWriteEvaluatesEveryCar : Prop :=
  ∀ (tag : Nat) (z f0 f1 f2 f3 t0 t1 t2 t3 cap en : Byte) (s : State),
    s.Takes 0x08 tag [z, f0, f1, f2, f3, t0, t1, t2, t3, cap, en] →
    let lo := ofLEInt32 [f0, f1, f2, f3]
    let hi := ofLEInt32 [t0, t1, t2, t3]
    let bad := 16 ≤ z.toNat ∨ hi ≤ lo ∨ lo < -50000 ∨ 50000 < lo ∨ hi < -50000 ∨ 50000 < hi ∨ 254 < cap.toNat ∨
      1 < en.toNat
    (bad → exec .zoneWrite s = .next (s.answered 0x08 tag .badArg [])) ∧
    (¬ bad → ∃ t, exec .zoneWrite s = .next t ∧ s.Answers t 0x08 tag .done [] ∧ t.link.outbox = s.link.outbox ∧
      (∀ n : Fin 16,
        t.zone n =
          if n.val = z.toNat then { lo := lo, hi := hi, cap := cap.toNat, enabled := decide (en.toNat = 1) }
          else s.zone n) ∧
      (∀ i, (s.car i).present = true →
        (∀ n, n ∈ (t.car i).touch ↔
          ∃ p, (s.car i).position = some p ∧ (t.zone n).enabled = true ∧
            (t.zone n).lo ≤ p.dm + (s.car i).uncertainty ∧ p.dm - (s.car i).uncertainty ≤ (t.zone n).hi) ∧
        (∀ n ∈ (t.car i).touch, (t.car i).zoneCap ≤ (t.zone n).cap) ∧
        ((t.car i).zoneCap = 255 ∨ ∃ n ∈ (t.car i).touch, (t.zone n).cap = (t.car i).zoneCap) ∧
        ((t.car i).touch = [] → (t.car i).zoneCap = 255) ∧
        (t.car i).effectiveCap = (t.car i).lowestCap ∧
        (t.car i).position = (s.car i).position ∧ (t.car i).uncertainty = (s.car i).uncertainty ∧
        (t.car i).gapCap = (s.car i).gapCap ∧ (t.car i).state = (s.car i).state) ∧
      s.GatesOpened t (fun src => ∃ i n, (s.car i).present = true ∧ n ∈ (t.car i).touch ∧ n ∉ (s.car i).touch ∧
        src = .carInZone i n) ∧
      s.LinesKept t ∧ t.way = s.way ∧ t.asks = s.asks ∧ t.halt = s.halt ∧ t.admission = s.admission ∧
      t.pending = s.pending)

/-- ZONE_READ, GATE_READ, CAR_READ and WAY_ORDER change nothing but the frame taken and the reply placed; BAD_ARG and NO_CAR
where their rules say (R19, R118, R121, R144). Widths and marks of the contents are as log 15 says. -/
def Obligations.ReadingRequestsChangeNothing : Prop :=
  ∀ (tag : Nat) (b : Byte) (s : State),
    let num := fun n k : Nat => (List.range n).map fun j => BitVec.ofNat 8 (k / 256 ^ j)
    let opt := fun (n : Nat) (x : Option Nat) => num n (x.getD (256 ^ n - 1))
    let signed := fun x : Int => num 3 (x % 16777216).toNat
    (s.Takes 0x09 tag [b] →
      (16 ≤ b.toNat → exec .zoneRead s = .next (s.answered 0x09 tag .badArg [])) ∧
      ∀ n : Fin 16, b.toNat = n.val →
        exec .zoneRead s = .next (s.answered 0x09 tag .done
          (signed (s.zone n).lo ++ signed (s.zone n).hi ++
            [BitVec.ofNat 8 (s.zone n).cap, if (s.zone n).enabled then 1#8 else 0#8,
              BitVec.ofNat 8 (allCars.filter fun i => (s.car i).present && (s.car i).touch.contains n).length]))) ∧
    (s.Takes 0x0C tag [b] →
      (8 ≤ b.toNat → exec .gateRead s = .next (s.answered 0x0C tag .badArg [])) ∧
      ∀ g : Fin 8, b.toNat = g.val →
        exec .gateRead s = .next (s.answered 0x0C tag .done
          ([BitVec.ofNat 8 (s.gate g).source.code,
              BitVec.ofNat 8 (((s.gate g).source.carOf.map (·.val)).getD 255),
              BitVec.ofNat 8 (((s.gate g).source.zoneOf.map (·.val)).getD 255),
              if (s.gate g).banking then 1#8 else 0#8, if (s.gate g).placement = .head then 0#8 else 1#8,
              BitVec.ofNat 8 (s.gate g).credit, BitVec.ofNat 8 (s.gate g).hold.length] ++
            ((s.gate g).hold.map fun h => match h with
              | .text i x => num 1 i.val ++ num 1 x.seq ++ num 1 x.level.val ++ num 1 x.chars.length
              | .cap i code => num 1 i.val ++ num 1 code).flatten))) ∧
    (s.Takes 0x10 tag [b] →
      (48 ≤ b.toNat → exec .carRead s = .next (s.answered 0x10 tag .badArg [])) ∧
      ∀ i : CarIx, b.toNat = i.val →
        ((s.car i).present = false → exec .carRead s = .next (s.answered 0x10 tag .noCar [])) ∧
        ((s.car i).present = true →
          let c := s.car i
          let parked := fun p : Option Parked => opt 2 (p.map (·.centre)) ++ opt 1 (p.map (·.gain))
          exec .carRead s = .next (s.answered 0x10 tag .done
            (num 1 i.val ++ num 3 c.unitId ++ num 1 c.state.code ++ num 1 (lineCode c.joinLine) ++ num 1 c.home.code ++
              (match c.position with | some p => signed p.dm | none => num 3 16777215) ++
              opt 1 (c.position.map fun p => lineCode p.line) ++ num 3 c.uncertainty ++ num 1 c.direction.code ++
              num 1 c.speed ++ num 1 c.requestedDoze.level ++ num 1 c.grantedDoze.level ++ num 1 c.lightRun ++
              num 1 c.listening.toNat ++ num 1 c.countdown ++ num 1 c.missCount ++ num 1 c.clashCount ++
              num 1 c.pollsSinceFull ++ num 1 c.headCap ++ num 1 c.zoneCap ++ opt 1 c.gapCap ++ num 1 c.effectiveCap ++
              num 1 c.driveSeqSent ++ num 1 c.capSent ++ num 1 c.confirmedCap ++ num 1 c.textSeq ++
              opt 1 (c.textAwait.map (·.seq)) ++ opt 1 (c.textAwait.map (·.waited)) ++
              opt 1 (c.textAwait.map (·.budget)) ++ parked c.parkedA ++ parked c.parkedB ++ opt 1 c.battery ++
              opt 2 c.odometer ++ opt 1 (c.carFaults.map CarFaults.code) ++ num 1 (s.hasPoll i).toNat ++
              num 1 (s.hasDrive i).toNat ++ num 1 (s.textsOf i).length ++
              opt 1 (((s.eng .A).contextOf i).map (·.val)) ++ opt 1 (((s.eng .B).contextOf i).map (·.val)))))) ∧
    (let entry := fun i : CarIx =>
        let c := s.car i
        num 1 i.val ++ (match c.position with | some p => signed p.dm | none => num 3 16777215) ++
          opt 1 (c.position.map fun p => lineCode p.line) ++ num 3 c.uncertainty ++ num 1 c.direction.code ++
          num 1 c.speed ++ num 1 c.effectiveCap ++ opt 1 c.gapCap
     let reply := fun first : Nat =>
        [BitVec.ofNat 8 s.wayOrder.length, BitVec.ofNat 8 first, BitVec.ofNat 8 ((s.wayOrder.drop first).take 20).length] ++
          (((s.wayOrder.drop first).take 20).map entry).flatten;
      (s.Takes 0x11 tag [b] → exec .wayOrder s = .next (s.answered 0x11 tag .done (reply b.toNat))) ∧
      (s.Takes 0x11 tag [] → exec .wayOrder s = .next (s.answered 0x11 tag .done (reply 0))) ∧
      ∀ first, (reply first).length = 3 + 12 * ((s.wayOrder.drop first).take 20).length)

/-- The way order (R117): every car with a position exactly once, no other, ascending by position, equal positions by
slot. -/
def Obligations.WayOrderIsSorted : Prop :=
  ∀ s : State,
    s.wayOrder.Nodup ∧
    (∀ i, i ∈ s.wayOrder ↔ (s.car i).present = true ∧ (s.car i).position ≠ none) ∧
    s.wayOrder.Pairwise fun i j =>
      ∀ p q, (s.car i).position = some p → (s.car j).position = some q → p.dm < q.dm ∨ (p.dm = q.dm ∧ i < j)

/-- The stopping distance (R124), the gap and the toward-speed (R125), the limit that a neighbour sets (R126), and the
neighbours a car is checked against (R127). -/
def Obligations.LimitIsTheLargestSafeCode : Prop :=
  ∀ w : WayParams, 0 < w.braking →
    (∀ c,
      (w.required c - w.margin) * (200 * w.braking) ≥ 2 * w.braking * (5 * c) * w.reaction + 10 * (5 * c) ^ 2 ∧
      (w.required c - w.margin) * (200 * w.braking) <
        2 * w.braking * (5 * c) * w.reaction + 10 * (5 * c) ^ 2 + 200 * w.braking) ∧
    (∀ c d, c ≤ d → w.required c ≤ w.required d) ∧ w.required 0 = w.margin ∧
    ∀ gap toward : Nat,
      (gap < w.required (min 255 toward) → w.limit gap toward = 0) ∧
      (w.required 255 ≤ gap → w.limit gap toward = 255) ∧
      (w.required (min 255 toward) ≤ gap →
        w.limit gap toward ≤ 255 ∧ w.required (min 255 (w.limit gap toward + toward)) ≤ gap ∧
        ∀ c, w.limit gap toward < c → c ≤ 255 → gap < w.required (min 255 (c + toward))) ∧
    ∀ (s : State) (before after : Option CarIx) (i j : CarIx), s.way = w →
      ((s.car i).present = true → (s.car j).present = true →
        ∀ p q, (s.car i).position = some p → (s.car j).position = some q →
          (s.gapBetween i j : Int) =
            max 0 (|q.dm - p.dm| - (s.car i).uncertainty - (s.car j).uncertainty - w.carLength)) ∧
      ((s.car j).towardSpeed true = if (s.car j).direction = .neg then (s.car j).speed else 0) ∧
      ((s.car j).towardSpeed false = if (s.car j).direction = .pos then (s.car j).speed else 0) ∧
      (let below := match before with
        | some j => w.limit (s.gapBetween i j) ((s.car j).towardSpeed false)
        | none => 255
       let above := match after with
        | some j => w.limit (s.gapBetween i j) ((s.car j).towardSpeed true)
        | none => 255
       s.newLimit before after i =
        if (s.car i).direction = .pos then above else if (s.car i).direction = .neg then below else min below above)

/-- How a new limit replaces a gap cap (R128). -/
def Obligations.GapCapFollowsItsHysteresis : Prop :=
  ∀ h limit g : Nat,
    (255 ≤ limit → nextGapCap h none limit = none ∧ nextGapCap h (some g) limit = none) ∧
    (limit < 255 →
      nextGapCap h none limit = some limit ∧
      (limit < g → nextGapCap h (some g) limit = some limit) ∧
      nextGapCap h (some limit) limit = some limit ∧
      (g < limit → g + h ≤ limit → nextGapCap h (some g) limit = some limit) ∧
      (g < limit → limit < g + h → nextGapCap h (some g) limit = some g)) ∧
    (g ≤ 254 → ∀ v, nextGapCap h (some g) limit = some v ∨ nextGapCap h none limit = some v → v ≤ 254)

/-- GATE_CONFIG (R137): BAD_ARG for a value that is not one of the named ones or a number out of range, NO_CAR for a CAR_
source of a FREE slot; otherwise the gate takes the source, banking and placement with credit 0 and keeps its hold
list. -/
def Obligations.GateConfigSetsTheGate : Prop :=
  ∀ (tag : Nat) (gb kind slot zone bank place : Byte) (s : State),
    s.Takes 0x0A tag [gb, kind, slot, zone, bank, place] →
    (8 ≤ gb.toNat ∨ 7 ≤ kind.toNat ∨ 2 ≤ bank.toNat ∨ 2 ≤ place.toNat ∨
        (3 ≤ kind.toNat ∧ kind.toNat ≤ 5 ∧ 48 ≤ slot.toNat) ∨ (kind.toNat = 4 ∧ 16 ≤ zone.toNat) →
      exec .gateConfig s = .next (s.answered 0x0A tag .badArg [])) ∧
    ∀ (g : Fin 8) (src : Source), gb.toNat = g.val → bank.toNat ≤ 1 → place.toNat ≤ 1 → kind.toNat = src.code →
      (∀ i, src.carOf = some i → slot.toNat = i.val) → (∀ n, src.zoneOf = some n → zone.toNat = n.val) →
      ((∃ i, src.carOf = some i ∧ (s.car i).present = false) →
        exec .gateConfig s = .next (s.answered 0x0A tag .noCar [])) ∧
      ((∀ i, src.carOf = some i → (s.car i).present = true) →
        exec .gateConfig s =
          .next ((s.setGate g
            { s.gate g with
              source := src, banking := decide (bank.toNat = 1), credit := 0
              placement := if place.toNat = 0 then .head else .tail }).answered 0x0A tag .done []))

/-- GATE_OPEN (R139, R140, R141, R143): one open releases the first held entry, or banks a credit up to 15, or does
nothing; the reply carries the outcome. Bytes that an outcome lacks are 0xFF (log 15). -/
def Obligations.GateOpenReleasesTheFirst : Prop :=
  ∀ (tag : Nat) (b : Byte) (s : State), s.Takes 0x0B tag [b] →
    (8 ≤ b.toNat → exec .gateOpen s = .next (s.answered 0x0B tag .badArg [])) ∧
    ∀ g : Fin 8, b.toNat = g.val →
      (∀ i x rest, (s.gate g).hold = .text i x :: rest → ∃ t, exec .gateOpen s = .next t ∧
        s.Answers t 0x0B tag .done [0#8, BitVec.ofNat 8 i.val, BitVec.ofNat 8 x.seq, 255#8] ∧
        s.TextEntered t (s.gate g).placement i { x with next := 0, seat := none } ∧
        t.gate g = { s.gate g with hold := rest } ∧ (∀ h, h ≠ g → t.gate h = s.gate h) ∧
        t.link.outbox = s.link.outbox ∧ s.RestKept t) ∧
      (∀ i code rest, (s.gate g).hold = .cap i code :: rest → ∃ t, exec .gateOpen s = .next t ∧
        s.Answers t 0x0B tag .done [1#8, BitVec.ofNat 8 i.val, BitVec.ofNat 8 code, 255#8] ∧
        s.CapApplied t i code ∧
        t.gate g = { s.gate g with hold := rest } ∧ (∀ h, h ≠ g → t.gate h = s.gate h) ∧
        t.link.outbox = s.link.outbox ∧ s.RestKept t) ∧
      ((s.gate g).hold = [] → (s.gate g).banking = true →
        exec .gateOpen s =
          .next ((s.setGate g { s.gate g with credit := min 15 ((s.gate g).credit + 1) }).answered 0x0B tag .done
            [2#8, 255#8, 255#8, BitVec.ofNat 8 (min 15 ((s.gate g).credit + 1))])) ∧
      ((s.gate g).hold = [] → (s.gate g).banking = false →
        exec .gateOpen s = .next (s.answered 0x0B tag .done [3#8, 255#8, 255#8, 255#8]))

/-! ## Cars -/

/-- CAR_CAP (R131, R132, R138): its checks in order; without a gate, or through a gate with credit, the cap is applied at
once; else it is held, or refused with QUEUE_FULL when the pool of 40 is in use. -/
def Obligations.CarCapIsAppliedOrHeld : Prop :=
  ∀ (tag : Nat) (slot c0 c1 gb : Byte) (s : State), s.Takes 0x0D tag [slot, c0, c1, gb] →
    (48 ≤ slot.toNat ∨ c1 ≠ 0#8 ∨ (8 ≤ gb.toNat ∧ gb ≠ 255#8) →
      exec .carCap s = .next (s.answered 0x0D tag .badArg [])) ∧
    ∀ i : CarIx, slot.toNat = i.val → c1 = 0#8 →
      ((s.car i).present = false → (gb = 255#8 ∨ gb.toNat < 8) → exec .carCap s = .next (s.answered 0x0D tag .noCar [])) ∧
      ((s.car i).present = true →
        (gb = 255#8 → ∃ t, exec .carCap s = .next t ∧ s.Answers t 0x0D tag .done [0#8] ∧ s.CapApplied t i c0.toNat ∧
          t.gates = s.gates ∧ t.link.outbox = s.link.outbox ∧ s.RestKept t) ∧
        ∀ g : Fin 8, gb.toNat = g.val →
          (0 < (s.gate g).credit → ∃ t, exec .carCap s = .next t ∧ s.Answers t 0x0D tag .done [0#8] ∧
            s.CapApplied t i c0.toNat ∧ t.gate g = { s.gate g with credit := (s.gate g).credit - 1 } ∧
            (∀ h, h ≠ g → t.gate h = s.gate h) ∧ t.link.outbox = s.link.outbox ∧ s.RestKept t) ∧
          ((s.gate g).credit = 0 → 40 ≤ s.poolInUse → exec .carCap s = .next (s.answered 0x0D tag .queueFull [])) ∧
          ((s.gate g).credit = 0 → s.poolInUse < 40 →
            exec .carCap s =
              .next ((s.setGate g { s.gate g with hold := (s.gate g).hold ++ [.cap i c0.toNat] }).answered 0x0D tag .done
                [1#8])))

/-- CAR_TEXT (R46, R138, R140, R150): its checks in order; then the text takes the car's next seq, with level, budget and
characters clamped, and enters the queue at the tail of its level, or is held by a gate without credit. -/
def Obligations.CarTextIsQueuedOrHeld : Prop :=
  ∀ (tag : Nat) (slot gb level budget count : Byte) (chars : List Byte) (s : State),
    s.Takes 0x0E tag (slot :: gb :: level :: budget :: count :: chars) → count.toNat = chars.length →
    (48 ≤ slot.toNat ∨ chars.length = 0 ∨ 40 < chars.length ∨ (8 ≤ gb.toNat ∧ gb ≠ 255#8) →
      exec .carText s = .next (s.answered 0x0E tag .badArg [])) ∧
    ∀ i : CarIx, slot.toNat = i.val → 1 ≤ chars.length → chars.length ≤ 40 → (gb = 255#8 ∨ gb.toNat < 8) →
      ((s.car i).present = false → exec .carText s = .next (s.answered 0x0E tag .noCar [])) ∧
      ((s.car i).present = true → 40 ≤ s.poolInUse → exec .carText s = .next (s.answered 0x0E tag .queueFull [])) ∧
      ((s.car i).present = true → s.poolInUse < 40 →
        ∀ lv : Fin 8, lv.val = max 2 (min 7 level.toNat) →
        (let seq := ((s.car i).textSeq + 1) % 4
        let shown := chars.map fun c => if 0x20 ≤ c.toNat ∧ c.toNat ≤ 0x7E then c else 0x3F#8
        let x : Text :=
          { level := lv, chars := shown, next := 0, budget := min 3 budget.toNat, seq := seq, seat := none, stamp := 0 }
        let code := if lv.val = level.toNat ∧ budget.toNat ≤ 3 ∧ shown = chars then Code.done else Code.doneClamped
        let u := s.setCar i { s.car i with textSeq := seq }
        (gb = 255#8 → ∃ t, exec .carText s = .next t ∧ s.Answers t 0x0E tag code [BitVec.ofNat 8 seq] ∧
          u.TextEntered t .tail i x ∧ t.gates = s.gates ∧ t.link.outbox = s.link.outbox ∧ s.RestKept t) ∧
        ∀ g : Fin 8, gb.toNat = g.val →
          (0 < (s.gate g).credit → ∃ t, exec .carText s = .next t ∧ s.Answers t 0x0E tag code [BitVec.ofNat 8 seq] ∧
            u.TextEntered t .tail i x ∧ t.gate g = { s.gate g with credit := (s.gate g).credit - 1 } ∧
            (∀ h, h ≠ g → t.gate h = s.gate h) ∧ t.link.outbox = s.link.outbox ∧ s.RestKept t) ∧
          ((s.gate g).credit = 0 →
            exec .carText s =
              .next ((u.setGate g { s.gate g with hold := (s.gate g).hold ++ [.text i x] }).answered 0x0E tag code
                [BitVec.ofNat 8 seq]))))

/-- CAR_DROP (R16, R17, R94, R145): the record is FREE, and nothing of the car stands in the queue, the gates or the
contexts; the other cars keep all but their gap and effective caps, and their texts. TEXT_END cancelled goes first for
each of its texts. The fields of a FREE record are the model's (log 9). -/
def Obligations.CarDropRemovesTheCar : Prop :=
  ∀ (tag : Nat) (slot : Byte) (s : State), s.Takes 0x0F tag [slot] →
    (48 ≤ slot.toNat → exec .carDrop s = .next (s.answered 0x0F tag .badArg [])) ∧
    ∀ i : CarIx, slot.toNat = i.val →
      ((s.car i).present = false → exec .carDrop s = .next (s.answered 0x0F tag .noCar [])) ∧
      ((s.car i).present = true → s.OneContextEach → ∃ t, exec .carDrop s = .next t ∧ s.Answers t 0x0F tag .done [] ∧
        t.car i = Car.free ∧
        (∀ e ∈ t.entries, e.job.carOf ≠ some i ∧ e.isRoomOf i = false) ∧
        (∀ g, (t.gate g).hold = (s.gate g).hold.filter (fun h => h.carOf ≠ i) ∧
          (t.gate g).source = (if (s.gate g).source.carOf = some i then .none else (s.gate g).source) ∧
          (t.gate g).credit = (s.gate g).credit ∧ (t.gate g).banking = (s.gate g).banking ∧
          (t.gate g).placement = (s.gate g).placement) ∧
        (∀ X k, (s.context X k).owner = some i → t.context X k = Ctx.free) ∧
        (∀ X k, (s.context X k).owner ≠ some i → t.context X k = s.context X k) ∧
        (∀ j, j ≠ i →
          t.car j = { s.car j with gapCap := (t.car j).gapCap, effectiveCap := (t.car j).effectiveCap } ∧
            t.textsOf j = s.textsOf j) ∧
        (∀ X, (t.eng X).state = (s.eng X).state ∧ (t.eng X).slot = (s.eng X).slot ∧
          (t.eng X).burst = (s.eng X).burst ∧ (t.eng X).ranging = (s.eng X).ranging) ∧
        ((s.textOrder i ++ s.heldTexts i).foldl (fun k seq => k.notify (.textEnd i seq .cancelled)) s.link).outbox <+:
          t.link.outbox ∧ s.SettingsKept t ∧ t.asks = s.asks ∧ t.halt = s.halt)

/-! ## Joining -/

/-- ADMIT (R2, R73, R76): BAD_ARG, TOO_LATE and QUEUE_FULL in that order; otherwise the ask is removed and the unit takes the
lowest FREE slot with the values of R2 and an ASSIGN ROOM, or with no FREE slot is told FULL with a CAR_JOIN full. -/
def Obligations.AdmitFillsTheLowestSlot : Prop :=
  ∀ (tag : Nat) (b0 b1 b2 : Byte) (s : State), s.Takes 0x13 tag [b0, b1, b2] →
    let u := b0.toNat + 256 * b1.toNat + 65536 * b2.toNat
    (u = 0 ∨ u = 16777215 → exec .admitUnit s = .next (s.answered 0x13 tag .badArg [])) ∧
    (1 ≤ u → u ≤ 16777214 →
      ((∀ a ∈ s.asks, a.unitId ≠ u) → exec .admitUnit s = .next (s.answered 0x13 tag .tooLate [])) ∧
      ∀ a, s.asks.find? (fun a => a.unitId == u) = some a →
        let waits := s.entries.any (Entry.isAssignFor u)
        (4 ≤ s.assignCount → waits = false → exec .admitUnit s = .next (s.answered 0x13 tag .queueFull [])) ∧
        (s.assignCount < 4 ∨ waits = true →
          (∀ i, s.lowestFree = some i → ∃ t, exec .admitUnit s = .next t ∧
            s.Answers t 0x13 tag .done [BitVec.ofNat 8 i.val] ∧ t.link.outbox = s.link.outbox ∧
            t.car i =
              { state := .joining, unitId := u, joinLine := a.line, home := homeOf a.line, position := none,
                uncertainty := 100000, direction := .still, speed := 0, requestedDoze := .awake, grantedDoze := .awake,
                lightRun := 0, listening := false, countdown := 0, missCount := 0, clashCount := 0, pollsSinceFull := 0,
                headCap := 255, zoneCap := 255, gapCap := none, effectiveCap := 255, driveSeqSent := 0, capSent := 0,
                confirmedCap := 0, textSeq := 0, textAwait := none, parkedA := none, parkedB := none, battery := none,
                odometer := none, carFaults := none, heardMark := false, touch := [], release := .none } ∧
            (∀ j, j ≠ i → t.car j = s.car j) ∧ t.asks = s.asks.filter (fun a => a.unitId ≠ u) ∧
            s.AssignOffered t { unitId := u, line := a.line, outcome := .room (i.val + 1) } ∧
            t.gates = s.gates ∧ s.LinesKept t ∧ s.SettingsKept t ∧ t.halt = s.halt) ∧
          (s.lowestFree = none → ∃ t, exec .admitUnit s = .next t ∧ s.Answers t 0x13 tag .done [255#8] ∧
            t.link.outbox = (s.link.notify (.carJoin .full none u (some a.line))).outbox ∧ t.cars = s.cars ∧
            t.asks = s.asks.filter (fun a => a.unitId ≠ u) ∧
            s.AssignOffered t { unitId := u, line := a.line, outcome := .full } ∧
            t.gates = s.gates ∧ s.LinesKept t ∧ s.SettingsKept t ∧ t.halt = s.halt)))

/-- ADMISSION (R78) sets the mode, and a value that names none is refused with BAD_ARG. REFUSE (R77) makes the checks of ADMIT;
otherwise the ask is removed, an ASSIGN FULL for its line waits, and a CAR_JOIN refused is queued. -/
def Obligations.AdmissionSetsTheModeAndRefuseTellsFull : Prop :=
  (∀ (tag : Nat) (b : Byte) (s : State), s.Takes 0x12 tag [b] →
    (b = 0#8 → exec .admission s = .next (({ s with admission := .opened } : State).answered 0x12 tag .done [])) ∧
    (b = 1#8 → exec .admission s = .next (({ s with admission := .closed } : State).answered 0x12 tag .done [])) ∧
    (2 ≤ b.toNat → exec .admission s = .next (s.answered 0x12 tag .badArg []))) ∧
  ∀ (tag : Nat) (b0 b1 b2 : Byte) (s : State), s.Takes 0x14 tag [b0, b1, b2] →
    let u := b0.toNat + 256 * b1.toNat + 65536 * b2.toNat
    (u = 0 ∨ u = 16777215 → exec .refuse s = .next (s.answered 0x14 tag .badArg [])) ∧
    (1 ≤ u → u ≤ 16777214 →
      ((∀ a ∈ s.asks, a.unitId ≠ u) → exec .refuse s = .next (s.answered 0x14 tag .tooLate [])) ∧
      ∀ a, s.asks.find? (fun a => a.unitId == u) = some a →
        let waits := s.entries.any (Entry.isAssignFor u)
        (4 ≤ s.assignCount → waits = false → exec .refuse s = .next (s.answered 0x14 tag .queueFull [])) ∧
        (s.assignCount < 4 ∨ waits = true → ∃ t, exec .refuse s = .next t ∧ s.Answers t 0x14 tag .done [] ∧
          t.link.outbox = (s.link.notify (.carJoin .refused none u (some a.line))).outbox ∧ t.cars = s.cars ∧
          t.asks = s.asks.filter (fun a => a.unitId ≠ u) ∧
          s.AssignOffered t { unitId := u, line := a.line, outcome := .full } ∧
          t.gates = s.gates ∧ s.LinesKept t ∧ s.SettingsKept t ∧ t.halt = s.halt))

/-! ## Slots and bursts -/

/-- What a line receives in a slot (R35, R38, R87, R99): the first edge inside the open window is captured with the count
it stands at, and no other; the trailing edge fixes width and body; the first level report after a capture is its level;
the window closes at its end; the first edge of a listening join slot starts its measurement. Only the line changes. The
count and the width are those the command reports (log 7). -/
def Obligations.ReceiversTakeTheFirstBurst : Prop :=
  ∀ (X : LineId) (s : State),
    (∀ q ticks, (s.eng X).poll = some q → (s.eng X).ranging.running = true → q.windowOpen = true → ticks ≤ 32767 →
      ((s.eng X).ranging.captured = none → q.windowStart ≤ ticks → ticks ≤ q.windowEnd →
        exec (.replyEdgeCapture X ticks) s =
          .next (s.setEng X { s.eng X with
            ranging := { (s.eng X).ranging with
              count := ticks % 8192, overflow := ticks / 8192, captured := some (ticks % 8192, ticks / 8192)
              widthRunning := true, width := 0 } })) ∧
      ((s.eng X).ranging.captured ≠ none ∨ ticks < q.windowStart ∨ q.windowEnd < ticks →
        exec (.replyEdgeCapture X ticks) s =
          .next (s.setEng X { s.eng X with
            ranging := { (s.eng X).ranging with count := ticks % 8192, overflow := ticks / 8192 } }))) ∧
    (∀ q, (s.eng X).poll = some q →
      exec (.replyWindowEnd X) s = .next (s.setEng X { s.eng X with poll := some { q with windowOpen := false } })) ∧
    (∀ (level : BitVec 6), (s.eng X).poll ≠ none → (s.eng X).ranging.captured ≠ none →
      exec (.levelReport X level) s =
        .next (s.setEng X { s.eng X with
          ranging := { (s.eng X).ranging with level := some ((s.eng X).ranging.level.getD level.toNat) } })) ∧
    (∀ (level : BitVec 6), (s.eng X).poll = none ∨ (s.eng X).ranging.captured = none →
      exec (.levelReport X level) s = .next s) ∧
    (∀ w bits, (s.eng X).poll ≠ none → (s.eng X).ranging.captured ≠ none → (s.eng X).ranging.body = none →
      exec (.burstTrailingEdge X w bits) s =
        .next (s.setEng X { s.eng X with
          ranging := { (s.eng X).ranging with width := min w 16383, widthRunning := false, body := some bits } })) ∧
    (∀ w bits n, (s.eng X).poll = none → (s.eng X).joinRx = some { width := n, bits := none } →
      exec (.burstTrailingEdge X w bits) s =
        .next (s.setEng X { s.eng X with joinRx := some { width := min w 16383, bits := some bits } })) ∧
    ((s.eng X).listening = true → (s.eng X).joinRx = none →
      exec (.joinEdge X) s = .next (s.setEng X { s.eng X with joinRx := some { width := 0, bits := none } })) ∧
    ((s.eng X).listening = false ∨ (s.eng X).joinRx ≠ none → exec (.joinEdge X) s = .next s)

/-- POLL_SLOT_START (R34, R35, R48 to R50, R53, R54, R66, R86): a POLL is eligible on a line in service that the car's home
includes, unless the other engine has engaged it. With no eligible POLL the slot is silent; otherwise the first eligible POLL
is engaged, the car obtains a context stamped with the cycle, the window follows the context's mode, and
the POLL goes out with the car's grant, the report type and, when it has an unengaged DRIVE and the latch is clear, a
drive word. The round-trip ticks of the window are the least whole number not below length / (VF × 14,990 per 10^6). -/
def Obligations.PollSlotSendsTheFirstPoll : Prop :=
  (∀ p : LineParams, 0 < p.vf →
    p.length * 1000000 ≤ p.tmax * (p.vf * 14990) ∧ p.tmax * (p.vf * 14990) < p.length * 1000000 + p.vf * 14990) ∧
  (∀ (X : LineId) (e : Entry) (s : State),
    s.pollEligible X e = true ↔
      s.inService X = true ∧ e.engaged ≠ some (otherLine X) ∧ ∃ i, e.job = .poll i ∧ (s.car i).home.includes X = true) ∧
  ∀ (X : LineId) (k : Nat) (s : State), s.nextSlot X = some (.poll k) → (s.eng X).burst = none →
    (s.eng X).restartPending = false →
    ((∀ e ∈ s.entries, s.pollEligible X e = false) →
      exec (.pollSlotStart X) s =
        .next (s.setEng X { s.eng X with
          slot := .poll k, slotOver := false, slotTimer := (s.eng X).plan.slotLen * 10000 })) ∧
    ∀ e i, s.FirstWith (s.pollEligible X) e → e.job = .poll i → ∃ t q n, exec (.pollSlotStart X) s = .next t ∧
      (let c := s.car i
       let p := (s.eng X).params
       let x := t.context X n
       let driven := s.halt.latch = false ∧ ∃ e ∈ s.entries, e.job = .drive i ∧ e.engaged ≠ some (otherLine X)
       let full := p.cadence ≠ 0 ∧ p.cadence ≤ c.pollsSinceFull
       (t.eng X).slot = .poll k ∧ (t.eng X).slotOver = false ∧ (t.eng X).poll = some q ∧ q.car = i ∧
        q.grant = c.grantedDoze ∧ (q.full = true ↔ full) ∧ q.windowOpen = false ∧ q.fate = .served ∧
        (t.eng X).gainOut = x.gain ∧ x.owner = some i ∧ x.stamp = (s.eng X).cycle ∧
        (x.mode = .narrow →
          q.windowStart = max p.guardTicks (x.centre - p.halfWidth) ∧
            q.windowEnd = min 32767 (x.centre + p.halfWidth)) ∧
        (x.mode = .wide →
          q.windowStart = max p.guardTicks (6000 + p.latency) ∧
            q.windowEnd = min 32767 (6000 + p.latency + p.tmax + p.halfWidth)) ∧
        (∃ word, (t.eng X).burst =
            some { kind := .poll word, bits := withCheck (pollBody (i.val + 1) c.grantedDoze q.full word) } ∧
          (driven → word = some {
            cap := c.effectiveCap, seq := (c.driveSeqSent + 1) % 8, grant := c.grantedDoze
            release := decide (c.release ≠ .none) }) ∧
          (¬ driven → word = none)) ∧
        t.entries.map (·.job) = s.entries.map (·.job) ∧
        (∀ e ∈ t.entries, e.job = .poll i → e.engaged = some X) ∧
        (driven → ∀ e ∈ t.entries, e.job = .drive i → e.engaged = some X) ∧
        n = s.chooseContext X i ∧ t.cars = (s.obtainContext X i n).cars ∧
        t.eng X = { s.eng X with
          slot := .poll k, slotOver := false, slotTimer := (s.eng X).plan.slotLen * 10000, burst := (t.eng X).burst
          poll := some q, ctx := ((s.obtainContext X i n).eng X).ctx } ∧
        t.eng (otherLine X) = s.eng (otherLine X) ∧ s.OnlyAir t)

/-- Obtaining a context (R82 to R85): a car uses the one it owns; else the lowest-numbered free one; else, with all six
owned, the one of greatest age and of these the lowest number, save that of the seated TEXT's car. A context given to a
car is loaded from its parked state or with the defaults, after a dirty old owner has been parked. -/
def Obligations.ContextsAreOwnedFreeOrEvicted : Prop :=
  ∀ (X : LineId) (i : CarIx) (s : State),
    (∀ k, (s.eng X).contextOf i = some k → s.chooseContext X i = k ∧
      s.obtainContext X i k = s.setContext X k { s.context X k with stamp := (s.eng X).cycle }) ∧
    ((∀ k, (s.context X k).owner ≠ some i) →
      (∀ k, (s.context X k).owner = none → (∀ l, l < k → (s.context X l).owner ≠ none) → s.chooseContext X i = k) ∧
      ((∀ k, (s.context X k).owner ≠ none) → s.OneContextEach →
        let spared := (s.seat X).map (·.1)
        let k := s.chooseContext X i
        (spared ≠ none → (s.context X k).owner ≠ spared) ∧
        ∀ l, (spared ≠ none → (s.context X l).owner ≠ spared) →
          (s.context X l).age (s.eng X).cycle < (s.context X k).age (s.eng X).cycle ∨
            ((s.context X l).age (s.eng X).cycle = (s.context X k).age (s.eng X).cycle ∧ k ≤ l)) ∧
      ∀ k,
        (s.obtainContext X i k).context X k =
          (match (s.car i).parked X with
            | some p => { owner := some i, mode := .narrow, centre := p.centre, gain := p.gain, history := [],
                          narrowMisses := 0, dirty := false, stamp := (s.eng X).cycle }
            | none => { owner := some i, mode := .wide, centre := 0, gain := 8, history := [], narrowMisses := 0,
                        dirty := false, stamp := (s.eng X).cycle }) ∧
        (∀ l, l ≠ k → (s.obtainContext X i k).context X l = s.context X l) ∧
        ∀ j, (s.obtainContext X i k).car j =
          if (s.context X k).owner = some j ∧ (s.context X k).dirty = true then
            (s.car j).setParked X (some { centre := (s.context X k).centre, gain := (s.context X k).gain })
          else s.car j)

/-- POLL_BURST_COMPLETE of a poll without a drive word (R40, R54, R98, R151): the capture counter starts from 0 with the
window open, a grant above AWAKE clears the listening flag, and a grant of AWAKE or LIGHT keeps the cycle from being idle.
The mark of a cycle that is not idle is set as the burst completes (log 11). -/
def Obligations.PollBurstOpensTheWindow : Prop :=
  ∀ (X : LineId) (q : PollSlot) (bits : Bits) (s : State),
    (s.eng X).burst = some { kind := .poll none, bits := bits } → (s.eng X).poll = some q → q.fate = .served →
    exec (.pollBurstComplete X) s =
      .next ((if q.grant = .awake then s else s.setCar q.car { s.car q.car with listening := false }).setEng X
        { s.eng X with
          burst := none
          traffic := (s.eng X).traffic || decide (q.grant = .awake ∨ q.grant = .light)
          poll := some { q with windowOpen := true }
          ranging := { Ranging.idle with running := true } })

/-- DRIVE_WORD_SENT, and POLL_BURST_COMPLETE of a poll with a drive word (R53, R54, R163): the seq and cap sent are
recorded, the entry leaves the queue, a flagged word makes the release SENT, and a DRIVE is queued again when the
effective cap has moved on. On a POLL the window opens too. The mark of a cycle that is not idle is set as the burst
completes (log 11). -/
def Obligations.DriveWordIsRecorded : Prop :=
  ∀ (X : LineId) (i : CarIx) (w : DriveWord) (bits : Bits) (s : State), s.driveEngaged X = some i →
    ((s.eng X).burst = some { kind := .drive w, bits := bits } → ∃ t, exec (.driveWordSent X) s = .next t ∧
      s.WordTaken t X i w ∧ (t.car i).listening = (s.car i).listening ∧
      t.eng X = { s.eng X with burst := none, traffic := true, breakPending := (t.eng X).breakPending }) ∧
    ∀ q, (s.eng X).burst = some { kind := .poll (some w), bits := bits } → (s.eng X).poll = some q → q.car = i →
      q.fate = .served → ∃ t, exec (.pollBurstComplete X) s = .next t ∧ exec (.driveWordSent X) s = .next t ∧
        s.WordTaken t X i w ∧ (t.car i).listening = ((s.car i).listening && decide (q.grant = .awake)) ∧
        t.eng X = { s.eng X with
          burst := none, traffic := true, breakPending := (t.eng X).breakPending
          poll := some { q with windowOpen := true }, ranging := { Ranging.idle with running := true } }

/-- TEXT_FRAGMENT_SENT (R52, R18, R39): the next fragment is counted; the last one takes the TEXT out of the queue and makes it
await its acknowledgement with its seq, budget, level, characters and place; a fragment of an unseated TEXT is not
counted, and one whose TEXT is gone changes nothing but the burst (R18). The mark of a cycle that is not idle is set as the
burst completes (log 11). That the entry disengaged and the seat emptied are not judged as a break event, so that both
break-pending flags stand, is the model's choice (log 30). -/
def Obligations.TextFragmentIsCounted : Prop :=
  (∀ (X : LineId) (bits : Bits) (s : State), (s.eng X).burst = some { kind := .text, bits := bits } →
    (∀ e ∈ s.entries, e.engaged = some X → e.textOf = none) →
    exec (.textFragmentSent X) s = .next (s.setEng X { s.eng X with burst := none, traffic := true })) ∧
  ∀ (X : LineId) (i : CarIx) (x : Text) (bits : Bits) (s : State),
    (s.eng X).burst = some { kind := .text, bits := bits } → s.textEngaged X = some (i, x) →
    let idle := fun e : Entry => if e.engaged = some X then { e with engaged := none } else e
    ∃ t, exec (.textFragmentSent X) s = .next t ∧
      t.eng X = { s.eng X with burst := none, traffic := true } ∧ t.eng (otherLine X) = s.eng (otherLine X) ∧
      s.OnlyAir t ∧
      (x.seat ≠ some X → t.entries = s.entries.map idle ∧ t.cars = s.cars) ∧
      (x.seat = some X → x.next + 1 = x.fragments →
        t.entries = s.entries.filter (fun e => !(decide (e.engaged = some X) && e.isTextAt i x.stamp)) ∧
        t.car i =
          { s.car i with
            textAwait := some {
                seq := x.seq, waited := 0, budget := x.budget, level := x.level, chars := x.chars, stamp := x.stamp } } ∧
        ∀ j, j ≠ i → t.car j = s.car j) ∧
      (x.seat = some X → x.next + 1 ≠ x.fragments →
        t.entries =
          s.entries.map (fun e =>
            idle (if e.isTextAt i x.stamp then { e with job := .text i { x with next := x.next + 1 } } else e)) ∧
        t.cars = s.cars)

/-- ASSIGN_SENT and MARK_BURST_COMPLETE (R55, R40, R156): the ASSIGN that was sent leaves the queue; a sent mark changes
nothing but the burst, and in QUIET the transmitter rests again. The mark of a cycle that is not idle is set as the burst
completes (log 11). -/
def Obligations.AssignAndMarkAreSent : Prop :=
  ∀ (X : LineId) (bits : Bits) (s : State),
    ((s.eng X).burst = some { kind := .assign, bits := bits } → ∃ t, exec (.assignSent X) s = .next t ∧
      t.eng X = { s.eng X with burst := none, traffic := true } ∧ t.eng (otherLine X) = s.eng (otherLine X) ∧
      t.entries = s.entries.filter (fun e => !(decide (e.engaged = some X) && e.isAssign)) ∧ t.cars = s.cars ∧
      s.OnlyAir t) ∧
    ((s.eng X).burst = some { kind := .mark, bits := bits } →
      exec (.markBurstComplete X) s = .next (s.setEng X { s.eng X with burst := none }) ∧
      ((s.eng X).state = .quiet →
        (s.eng X).restOut = false ∧ ({ s.eng X with burst := none } : Engine).restOut = true))

/-- COMMAND_SLOT_START (R37, R47 to R51, R53, R67, R68): an entry is eligible only on a line in RUN with the latch clear, and
while the other engine has not engaged it; a DRIVE or a TEXT needs a listening car whose home includes the line, a TEXT must
be the oldest of its car (the place in the text order is log 19's number), with no other of the car seated or awaiting
acknowledgement and the engine's seat empty or its own, and an ASSIGN must be for the line. So the slot is silent in QUIET and
while the latch is set, and with no eligible entry; otherwise one COMMAND burst for the first
eligible DRIVE, TEXT or ASSIGN, which is engaged; a TEXT takes the seat at its first fragment. -/
def Obligations.CommandSlotSendsTheFirstEntry : Prop :=
  (∀ (X : LineId) (e : Entry) (s : State),
    let offered := (s.eng X).state = .run ∧ s.halt.latch = false ∧ e.engaged ≠ some (otherLine X)
    let awake := fun i : CarIx => (s.car i).home.includes X = true ∧ (s.car i).listening = true
    (s.seat X = none ↔ ∀ d ∈ s.entries, ∀ i x, d.job = .text i x → x.seat ≠ some X) ∧
    (∀ i x, s.seat X = some (i, x) → x.seat = some X ∧ ∃ d ∈ s.entries, d.job = .text i x) ∧
    (∀ i, e.job = .poll i → s.commandEligible X e = false) ∧
    (∀ i, e.job = .drive i → (s.commandEligible X e = true ↔ offered ∧ awake i)) ∧
    (∀ i x, e.job = .text i x →
      (s.commandEligible X e = true ↔
        offered ∧ awake i ∧ (s.car i).textAwait = none ∧ x.seat ≠ some (otherLine X) ∧
          (∀ d ∈ s.entries, ∀ y, d.job = .text i y → x.stamp ≤ y.stamp ∧ (y.stamp ≠ x.stamp → y.seat = none)) ∧
          ∀ j y, s.seat X = some (j, y) → j = i ∧ y.stamp = x.stamp)) ∧
    (∀ a, e.job = .assign a → (s.commandEligible X e = true ↔ offered ∧ a.line = X))) ∧
  ∀ (X : LineId) (k : Nat) (s : State), s.nextSlot X = some (.command k) → (s.eng X).burst = none →
    (s.eng X).restartPending = false →
    let begun := fun b : Option Burst =>
      { s.eng X with
        slot := .command k, slotOver := false, slotTimer := (s.eng X).plan.slotLen * 10000, burst := b }
    (s.halt.latch = true ∨ (s.eng X).state = .quiet → exec (.commandSlotStart X) s = .next (s.setEng X (begun none))) ∧
    ((∀ e ∈ s.entries, s.commandEligible X e = false) → exec (.commandSlotStart X) s = .next (s.setEng X (begun none))) ∧
    ∀ e, s.FirstWith (s.commandEligible X) e → ∃ t, exec (.commandSlotStart X) s = .next t ∧
      t.eng (otherLine X) = s.eng (otherLine X) ∧ t.cars = s.cars ∧ s.OnlyAir t ∧
      (∀ i, e.job = .drive i →
        (let w : DriveWord :=
          { cap := (s.car i).effectiveCap, seq := ((s.car i).driveSeqSent + 1) % 8, grant := (s.car i).grantedDoze
            release := decide ((s.car i).release ≠ .none) }
         t.eng X = begun (some { kind := .drive w, bits := withCheck (driveBody (i.val + 1) w) }) ∧
         t.entries = s.entries.map (fun e => if e.isDriveOf i then { e with engaged := some X } else e))) ∧
      (∀ i x, e.job = .text i x →
        t.eng X = begun (some { kind := .text, bits := withCheck (textBody (i.val + 1) x) }) ∧
        t.entries = s.entries.map (fun e =>
          if e.isTextAt i x.stamp then
            { job := .text i { x with seat := if x.next = 0 then some X else x.seat }, engaged := some X }
          else e)) ∧
      (∀ a, e.job = .assign a →
        t.eng X = begun (some { kind := .assign, bits := withCheck (assignBody a) }) ∧
        t.entries = s.entries.map (fun e => if e.isAssignFor a.unitId then { e with engaged := some X } else e))

/-- JOIN_SLOT_START listens exactly when join-open is yes; JOIN_SLOT_END of a slot with no burst, a clash or a bad check ends
with no result, of a burst received whole or of one still in progress, which is measured as having ended there (R38, R64). -/
def Obligations.JoinSlotsListenWhenOpen : Prop :=
  ∀ (X : LineId) (s : State), (s.eng X).restartPending = false →
    (∀ k, s.nextSlot X = some (.join k) → (s.eng X).burst = none →
      exec (.joinSlotStart X) s =
        .next (s.setEng X { s.eng X with
          slot := .join k, slotOver := false, slotTimer := (s.eng X).plan.slotLen * 10000
          listening := (s.eng X).joinOpen, joinRx := none })) ∧
    ∀ w bits, s.inJoinSlot X = true →
      ((s.eng X).joinRx = none ∨
        ∃ rx, (s.eng X).joinRx = some rx ∧
          (let width := if rx.bits = none then min w 16383 else rx.width
           1500 + (s.eng X).params.widthTol < width ∨ width + (s.eng X).params.widthTol < 1500 ∨
            readJoin (rx.bits.getD bits) = none)) →
      exec (.joinSlotEnd X w bits) s =
        .next (s.setEng X { s.eng X with listening := false, joinRx := none, slotOver := true })

/-- JOIN_SLOT_END with a join of unit `u` (R3, R38, R45, R64, R72, R73, R74, R152): a burst of good width, received whole or
still in progress, whose body is the JOIN of `u` and whose check is good. The join breaks QUIET and marks the cycle, and
nothing else changes for unit 0 or 16,777,215, or when an ASSIGN is needed while four are queued and none is for `u`. In CLOSED
mode an unknown unit is asked about; in OPEN mode it fills the lowest FREE slot; a unit of the roster is re-admitted in place,
its caps kept. Re-admission keeps the polls since the last full report (log 10). -/
def Obligations.HeardJoinIsTaken : Prop :=
  ∀ (X : LineId) (u w : Nat) (bits : Bits) (rx : JoinRx) (s : State),
    s.inJoinSlot X = true → (s.eng X).restartPending = false → u < 16777216 →
    (s.eng X).joinRx = some rx → rx.bits.getD bits = withCheck (toBits 3 5 ++ toBits 24 u) →
    let width := if rx.bits = none then min w 16383 else rx.width
    width ≤ 1500 + (s.eng X).params.widthTol → 1500 ≤ width + (s.eng X).params.widthTol →
    let waits := s.entries.any (Entry.isAssignFor u)
    let place := s.assignCount < 4 ∨ waits = true
    let valid := 1 ≤ u ∧ u ≤ 16777214
    let heard : Engine := { s.eng X with
      traffic := true, breakPending := true, slotOver := true, listening := false, joinRx := none }
    ∃ t, exec (.joinSlotEnd X w bits) s = .next t ∧
      t.eng X = { heard with poll := (t.eng X).poll, ctx := (t.eng X).ctx } ∧
      s.LinkKept t ∧ s.SettingsKept t ∧ t.halt = s.halt ∧ t.gates = s.gates ∧
      (¬ valid ∨ (¬ place ∧ (s.carOfUnit u ≠ none ∨ s.admission = .opened)) → t = s.setEng X heard) ∧
      (s.carOfUnit u = none →
        t.eng X = heard ∧ (t.eng (otherLine X)).unbroken = (s.eng (otherLine X)).unbroken) ∧
      (valid → s.carOfUnit u = none → s.admission = .closed → (∀ a ∈ s.asks, a.unitId ≠ u) → s.asks.length < 4 →
        t.asks = s.asks ++ [{ unitId := u, line := X, cyclesLeft := s.way.askTimeout }] ∧
        t.link = s.link.notify (.joinAsk u X) ∧ t.cars = s.cars ∧ t.queue = s.queue) ∧
      (valid → s.carOfUnit u = none → s.admission = .closed → (∃ a ∈ s.asks, a.unitId = u) ∨ 4 ≤ s.asks.length →
        t.asks = s.asks ∧ t.link = s.link ∧ t.cars = s.cars ∧ t.queue = s.queue) ∧
      (valid → s.carOfUnit u = none → s.admission = .opened → place →
        (∀ i, s.lowestFree = some i →
          t.car i = Car.admitted u X ∧ (∀ j, j ≠ i → t.car j = s.car j) ∧ t.link = s.link ∧
          t.asks = s.asks.filter (fun a => a.unitId ≠ u) ∧
          s.AssignOffered t { unitId := u, line := X, outcome := .room (i.val + 1) }) ∧
        (s.lowestFree = none →
          t.cars = s.cars ∧ t.asks = s.asks ∧ t.link = s.link.notify (.carJoin .full none u (some X)) ∧
          s.AssignOffered t { unitId := u, line := X, outcome := .full })) ∧
      (∀ i, valid → s.carOfUnit u = some i → place → s.OneContextEach →
        (let c := s.car i
         t.car i =
          { c with
            state := .joining, joinLine := X, home := homeOf X, position := none, uncertainty := 100000
            direction := .still, speed := 0, requestedDoze := .awake, grantedDoze := .awake, lightRun := 0
            listening := false, missCount := 0, countdown := 0, parkedA := none, parkedB := none, driveSeqSent := 0
            capSent := 0, confirmedCap := 0, heardMark := false, touch := []
            release := if c.release = .sent then .owed else c.release }) ∧
        (∀ j, j ≠ i → t.car j = s.car j) ∧ t.link = s.link ∧ t.asks = s.asks ∧
        (∀ Y k, (s.context Y k).owner = some i → t.context Y k = Ctx.free) ∧
        s.AssignOffered t { unitId := u, line := X, outcome := .room (i.val + 1) })

/-- The class of a poll slot (R100 to R103): the first test of the table that holds. -/
def Obligations.SlotClassFollowsTheTable : Prop :=
  ∀ (p : LineParams) (q : PollSlot) (r : Ranging) (width : Nat) (bits : Bits),
    (q.fate = .gone → classify p q r width bits = .noResult) ∧
    (q.fate = .rejoined → classify p q r width bits = .miss .noEdge) ∧
    (q.fate = .served → r.captured = none → classify p q r width bits = .miss .noEdge) ∧
    ∀ c v, q.fate = .served → r.captured = some (c, v) →
      let want := if q.full then 3000 else 1800
      (want + p.widthTol < width ∨ width + p.widthTol < want → classify p q r width bits = .miss .clash) ∧
      (width ≤ want + p.widthTol → want ≤ width + p.widthTol →
        (readReply q.full bits = none → classify p q r width bits = .miss .garbled) ∧
        ∀ b, readReply q.full bits = some b →
          (b.address ≠ q.car.val + 1 → classify p q r width bits = .miss .clash) ∧
          (b.address = q.car.val + 1 →
            (2 ≤ v → classify p q r width bits = .miss .far) ∧
            (v < 2 → r.level.getD 0 < 4 → classify p q r width bits = .miss .faint) ∧
            (v < 2 → 4 ≤ r.level.getD 0 → classify p q r width bits = .valid c v (r.level.getD 0) b)))

/-- Bursts (R52, R63 to R68). A burst is its body and eight check bits, the CRC-8 whose figure for nine bytes the manual
gives. The bodies of MARK, POLL and COMMAND carry their fields in the places of the layout, the body kind of a COMMAND and the
fragments of a TEXT among them. A body under its own check is read back; the REPLY bodies of both report types are read field
by field; a burst reads as a JOIN exactly when it is the JOIN of that unit under a good check. The drive word carries its
fields from the most significant bit down, and its check, the sum of the two 7-bit halves of the first 14 bits modulo 64. -/
def Obligations.BurstsAreLaidOutAndReadBack : Prop :=
  let number := fun b : Bits => b.foldl (fun k c => 2 * k + c.toNat) 0
  let field := fun (b : Bits) (first width : Nat) => number ((b.drop first).take width)
  (∀ body : Bits, (withCheck body).length = body.length + 8 ∧ (withCheck body).take body.length = body ∧
    checkedBody (withCheck body) = some body) ∧
  field (withCheck ([0x31, 0x32, 0x33, 0x34, 0x35, 0x36, 0x37, 0x38, 0x39].map (toBits 8)).flatten) 72 8 = 0xF4 ∧
  (∀ (X : LineId) (cycle : Nat) (p : Plan) (allStop joinOpen : Bool),
    cycle < 65536 → p.polls < 32 → p.commands < 32 → p.joins < 8 → p.slotLen < 128 →
    let b := markBody X cycle p allStop joinOpen
    b.length = 42 ∧ field b 0 3 = 0 ∧ field b 3 1 = (if X = .A then 0 else 1) ∧ field b 4 16 = cycle ∧
      field b 20 5 = p.polls ∧ field b 25 5 = p.commands ∧ field b 30 3 = p.joins ∧ field b 33 7 = p.slotLen ∧
      b[40]? = some allStop ∧ b[41]? = some joinOpen) ∧
  (∀ (address : Nat) (grant : Doze) (full : Bool) (word : Option DriveWord),
    address < 64 → (∀ w, word = some w → w.cap < 256 ∧ w.seq < 8) →
    let b := pollBody address grant full word
    b.length = (if word = none then 13 else 33) ∧ field b 0 3 = 1 ∧ field b 3 6 = address ∧
      field b 9 2 = (match grant with | .awake => 0 | .light => 1 | .deep => 2 | .parked => 3) ∧
      b[11]? = some full ∧ b[12]? = some (decide (word ≠ none)) ∧ ∀ w, word = some w → field b 13 20 = w.value) ∧
  (∀ (address : Nat) (w : DriveWord), address < 64 → w.cap < 256 → w.seq < 8 →
    let b := driveBody address w
    b.length = 31 ∧ field b 0 3 = 2 ∧ field b 3 6 = address ∧ field b 9 2 = 0 ∧ field b 11 20 = w.value) ∧
  (∀ (address : Nat) (x : Text), address < 64 → x.seq < 4 → x.chars.length ≤ 40 → 8 * x.next < x.chars.length →
    (∀ c ∈ x.chars, c.toNat < 128) →
    let b := textBody address x
    let sent := min 8 (x.chars.length - 8 * x.next)
    b.length = 23 + 7 * sent ∧ field b 0 3 = 2 ∧ field b 3 6 = address ∧ field b 9 2 = 1 ∧ field b 11 2 = x.seq ∧
      field b 13 3 = x.next ∧ field b 16 3 = (x.chars.length + 7) / 8 ∧ field b 19 4 = sent ∧
      ∀ k, k < sent → (x.chars[8 * x.next + k]?).map (·.toNat) = some (field b (23 + 7 * k) 7)) ∧
  (∀ a : Assign, a.unitId < 16777216 → (∀ n, a.outcome = .room n → n < 64) →
    let b := assignBody a
    b.length = 41 ∧ field b 0 3 = 2 ∧ field b 3 6 = 0 ∧ field b 9 2 = 2 ∧ field b 11 24 = a.unitId ∧
      (∀ n, a.outcome = .room n → field b 35 6 = n) ∧ (a.outcome = .full → field b 35 6 = 0)) ∧
  (∀ (address doze speed faults echo seq battery odometer : Nat) (ack : Bool),
    address < 64 → doze < 4 → speed < 256 → faults < 4 → echo < 8 → seq < 4 → battery < 128 → odometer < 65536 →
    let fields := toBits 6 address ++ toBits 2 doze ++ toBits 8 speed ++ toBits 2 faults ++ toBits 3 echo ++ [ack] ++
      toBits 2 seq
    let read := fun extra : Option (Nat × Nat) => some {
      address := address, doze := dozeOfCode doze, speed := speed, faults := carFaultsOfCode faults, echo := echo
      ackValid := ack, ackSeq := seq, extra := extra : Reply }
    readReply false (withCheck (toBits 3 3 ++ fields)) = read none ∧
    readReply true (withCheck (toBits 3 4 ++ fields ++ toBits 7 battery ++ toBits 16 odometer)) =
      read (some (battery, odometer)) ∧
    readReply true (withCheck (toBits 3 3 ++ fields)) = none) ∧
  (∀ (bits : Bits) (u : Nat),
    readJoin bits = some u ↔ u < 16777216 ∧ bits = withCheck (toBits 3 5 ++ toBits 24 u)) ∧
  ∀ w : DriveWord, w.cap < 256 → w.seq < 8 →
    w.value < 2 ^ 20 ∧ w.value / 2 ^ 12 = w.cap ∧ w.value / 2 ^ 9 % 8 = w.seq ∧ w.value / 2 ^ 7 % 4 = w.grant.level ∧
    w.value / 2 ^ 6 % 2 = w.release.toNat ∧
    w.value % 64 = (w.value / 2 ^ 13 + w.value / 2 ^ 6 % 128) % 64

/-- The places of the ranging arithmetic (R105 to R108, R8): a raw distance is the round trip times VF × 14,990 per 10^6,
rounded once with halves up and held at the line's length with the at-end flag; the measured distance is the median of
three distances, or the latest; the place restarts, or moves by the quotient truncated toward zero; a motion of the threshold
or more gives the direction (R114); and the home follows the place and the lines in service. -/
def Obligations.PlacesFollowTheRanges : Prop :=
  (∀ (p : LineParams) (count : Nat), ∃ D : Nat,
    2000000 * D ≤ 2 * ((count - 6000 - p.latency) * p.vf * 14990) + 1000000 ∧
      2 * ((count - 6000 - p.latency) * p.vf * 14990) + 1000000 < 2000000 * (D + 1) ∧
      (p.rawDistance count).1 = (if p.length < D then p.length else D) ∧
      ((p.rawDistance count).2 = true ↔ p.length < D)) ∧
  (∀ a b c latest : Nat,
    measured [a, b, c] latest ∈ [a, b, c] ∧
      2 ≤ ([a, b, c].filter fun x => decide (x ≤ measured [a, b, c] latest)).length ∧
      2 ≤ ([a, b, c].filter fun x => decide (measured [a, b, c] latest ≤ x)).length) ∧
  (∀ (h : List Nat) (latest : Nat), h.length ≠ 3 → measured h latest = latest) ∧
  (∀ m : Nat, signedPlace .A m = -(m : Int) ∧ signedPlace .B m = m) ∧
  (∀ (p : LineParams) (X : LineId) (P : Int),
    p.newPlace X none P = P ∧
    ∀ o : Position,
      (o.line ≠ X → p.newPlace X (some o) P = P) ∧
      ((p.length : Int) < |o.dm| → p.newPlace X (some o) P = P) ∧
      (o.line = X → |o.dm| ≤ (p.length : Int) →
        let q := p.newPlace X (some o) P - o.dm
        (o.dm ≤ P → 0 ≤ q ∧ q * 2 ^ p.shift ≤ P - o.dm ∧ P - o.dm < (q + 1) * 2 ^ p.shift) ∧
        (P ≤ o.dm → q ≤ 0 ∧ P - o.dm ≤ q * 2 ^ p.shift ∧ (q - 1) * 2 ^ p.shift < P - o.dm))) ∧
  (∀ (motion speed : Nat) (old : Direction) (before : Option Position) (new : Int) (atEnd : Bool), 1 ≤ motion →
    (speed = 0 → newDirection motion old speed before new atEnd = .still) ∧
    (speed ≠ 0 →
      (before = none ∨ atEnd = true → newDirection motion old speed before new atEnd = old) ∧
      ∀ o, before = some o → atEnd = false →
        ((motion : Int) ≤ new - o.dm → newDirection motion old speed before new atEnd = .pos) ∧
        ((motion : Int) ≤ o.dm - new → newDirection motion old speed before new atEnd = .neg) ∧
        (|new - o.dm| < (motion : Int) → newDirection motion old speed before new atEnd = old))) ∧
  ∀ (s : State) (p : Position),
    (s.inService .A = true → s.inService .B = true →
      (p.dm < -(s.way.radius : Int) → s.homeAt p = .a) ∧
      (-(s.way.radius : Int) ≤ p.dm → p.dm ≤ s.way.radius → s.homeAt p = .both) ∧
      ((s.way.radius : Int) < p.dm → s.homeAt p = .b)) ∧
    (s.inService .A = false ∨ s.inService .B = false →
      (p.line = .A → s.homeAt p = .a) ∧ (p.line = .B → s.homeAt p = .b))

/-- The grant and the gain after a reply: the ceiling of a grant is the first case of R148 that holds, the target is the
shallower of request and ceiling, and a deep target needs a light run of the deep delay (R149); the gain step falls at a level
of 49 or more, rises at 15 or less, and stays between (R88). -/
def Obligations.GrantsAndGainFollowTheReply : Prop :=
  (∀ (s : State) (i : CarIx),
    let busy := 0 < (s.car i).speed ∨ (∃ e ∈ s.entries, ∃ x, e.job = .text i x) ∨
      (∃ e ∈ s.entries, ∃ u X, e.job = .assign { unitId := u, line := X, outcome := .room (i.val + 1) }) ∨
      (s.car i).gapCap ≠ none ∨ (s.car i).confirmedCap ≠ (s.car i).effectiveCap
    (busy → s.dozeCeiling i = .awake) ∧ (¬ busy → s.halt.latch = true → s.dozeCeiling i = .light) ∧
      (¬ busy → s.halt.latch = false → s.dozeCeiling i = .parked)) ∧
  (∀ a b : Doze, (a.shallower b = a ∨ a.shallower b = b) ∧ (a.shallower b).level ≤ a.level ∧
    (a.shallower b).level ≤ b.level) ∧
  (∀ (target : Doze) (run delay : Nat),
    (target = .awake ∨ target = .light ∨ delay ≤ run → grantFor target run delay = target) ∧
    (target = .deep ∨ target = .parked → run < delay → grantFor target run delay = .light)) ∧
  ∀ gain level : Nat,
    (49 ≤ level → adjustGain gain level = gain - 1) ∧
    (16 ≤ level → level ≤ 48 → adjustGain gain level = gain) ∧
    (level ≤ 15 → adjustGain gain level = min 15 (gain + 1))

/-- POLL_SLOT_END of a slot that sent no poll, whose car is gone (R18, R36, R91), or whose poll is a miss (R6, R7, R36, R89,
R90, R104): a car that is gone leaves no result; at a miss the POLL leaves the queue, the counts rise, the state follows the
lost limit with its notice, and the context takes the miss while every other context stands. A JOINING
car at the limit lapses; the fields of its FREE record are the model's (log 9). -/
def Obligations.MissedPollIsCounted : Prop :=
  ∀ (X : LineId) (width : Nat) (bits : Bits) (s : State), s.inPollSlot X = true → (s.eng X).burst = none →
    (s.eng X).restartPending = false →
    ((s.eng X).poll = none → exec (.pollSlotEnd X width bits) s = .next (s.setEng X { s.eng X with slotOver := true })) ∧
    (∀ q : PollSlot, (s.eng X).poll = some q → q.fate = .gone → ∃ t, exec (.pollSlotEnd X width bits) s = .next t ∧
      t.eng X = { s.eng X with poll := none, ranging := Ranging.idle, slotOver := true } ∧
      t.eng (otherLine X) = s.eng (otherLine X) ∧ t.cars = s.cars ∧
      t.entries = s.entries.filter (fun e => !(decide (e.engaged = some X) && e.job.isPoll)) ∧ s.OnlyAir t) ∧
    ∀ (q : PollSlot) (reason : MissReason), (s.eng X).poll = some q → s.slotClass X q width bits = .miss reason →
      ∃ t, exec (.pollSlotEnd X width bits) s = .next t ∧
        t.eng X = { s.eng X with
          poll := none, ranging := Ranging.idle, slotOver := true, ctx := (t.eng X).ctx
          breakPending := (t.eng X).breakPending } ∧
        (∀ e ∈ t.entries, e.engaged = some X → ∀ j, e.job ≠ .poll j) ∧
        s.LinkKept t ∧ s.SettingsKept t ∧ t.halt = s.halt ∧ t.asks = s.asks ∧
        (let c : Car := s.car q.car
         let misses := min 255 (c.missCount + 1)
         let lost := (s.eng X).params.lostLimit ≤ misses
         let counted := { c with
            missCount := misses, clashCount := if reason = MissReason.clash then min 255 (c.clashCount + 1) else c.clashCount }
         (c.state ≠ CarState.joining ∨ ¬ lost →
          t.car q.car =
            { counted with
              state := if c.state = CarState.heard ∨ c.state = CarState.missing then (if lost then .lost else .missing) else c.state } ∧
          (∀ j, j ≠ q.car → t.car j = s.car j) ∧
          t.link =
            (if lost ∧ (c.state = CarState.heard ∨ c.state = CarState.missing) then s.link.notify (.carLost q.car c.unitId .misses)
             else s.link) ∧
          t.gates = s.gates ∧ t.eng (otherLine X) = s.eng (otherLine X) ∧
          t.entries = s.entries.filter (fun e => !(decide (e.engaged = some X) && e.job.isPoll)) ∧
          ((s.eng X).contextOf q.car = none → (t.eng X).ctx = (s.eng X).ctx) ∧
          ∀ k, (s.eng X).contextOf q.car = some k →
            (let x := s.context X k
             t.context X k =
              { x with
                narrowMisses := if x.mode = .narrow then x.narrowMisses + 1 else x.narrowMisses
                mode := if x.mode = .narrow ∧ x.narrowMisses = 0 then .narrow else .wide
                gain := if reason = MissReason.faint then min 15 (x.gain + 1) else x.gain
                dirty := x.dirty ||
                  decide (x.mode = .narrow ∧ (reason = MissReason.faint ∨ 1 ≤ x.narrowMisses)) }) ∧
            ∀ l, l ≠ k → t.context X l = s.context X l) ∧
         (c.state = CarState.joining → lost →
          t.car q.car = Car.free ∧ (∀ e ∈ t.entries, e.job.carOf ≠ some q.car) ∧
          (s.link.notify (.carJoin .lapsed (some q.car) c.unitId none)).outbox <+: t.link.outbox))

/-- POLL_SLOT_END with a valid reply (R4, R5, R8, R14, R56, R57, R88, R104, R108, R110, R114, R122, R123, R131, R142, R148,
R149, R151, R163): the POLL leaves the queue; state, report, position, direction, home, zone cap, effective cap, listening,
grant and countdown are as the rules give; the gates of the reply, of a stop and of each zone entered
open; the drive echo and the text acknowledgement are taken; the context follows the
reply. The order inside the event is the model's (log 5). -/
def Obligations.ValidReplyUpdatesTheRecord : Prop :=
  ∀ (X : LineId) (width : Nat) (bits : Bits) (q : PollSlot) (count v level : Nat) (r : Reply) (s : State),
    s.inPollSlot X = true → (s.eng X).burst = none → (s.eng X).restartPending = false → (s.eng X).poll = some q →
    s.slotClass X q width bits = .valid count v level r →
    ∃ t, exec (.pollSlotEnd X width bits) s = .next t ∧
      (let i := q.car
       let c := s.car i
       let d := t.car i
       let p := (s.eng X).params
       let range := p.rawDistance (8192 * v + count)
       let history := match (s.eng X).contextOf i with
         | some k => ((s.context X k).history ++ [range.1]).drop ((s.context X k).history.length - 2)
         | none => []
       let place := p.newPlace X c.position (signedPlace X (measured history range.1))
       t.eng X = { s.eng X with
          poll := none, ranging := Ranging.idle, slotOver := true, ctx := (t.eng X).ctx
          breakPending := (t.eng X).breakPending } ∧
        t.eng (otherLine X) = { s.eng (otherLine X) with
          ctx := (t.eng (otherLine X)).ctx, breakPending := (t.eng (otherLine X)).breakPending } ∧
        (∀ e ∈ t.entries, e.engaged = some X → ∀ j, e.job ≠ .poll j) ∧
        d.state = .heard ∧ d.missCount = 0 ∧ d.clashCount = c.clashCount ∧ d.unitId = c.unitId ∧
        d.speed = r.speed ∧ d.requestedDoze = r.doze ∧ d.carFaults = some r.faults ∧
        (∀ battery odometer, r.extra = some (battery, odometer) →
          d.battery = some (min 100 battery) ∧ d.odometer = some odometer ∧ d.pollsSinceFull = 0) ∧
        (r.extra = none →
          d.battery = c.battery ∧ d.odometer = c.odometer ∧ d.pollsSinceFull = min 255 (c.pollsSinceFull + 1)) ∧
        d.position = some { dm := place, line := X } ∧ d.uncertainty = p.rangeTol ∧ d.heardMark = true ∧
        d.direction = newDirection s.way.motion c.direction r.speed c.position place range.2 ∧
        d.home = s.homeAt { dm := place, line := X } ∧
        d.countdown = q.grant.interval - 1 ∧
        d.confirmedCap = (if r.echo = c.driveSeqSent then c.capSent else c.confirmedCap) ∧
        d.driveSeqSent = c.driveSeqSent ∧ d.capSent = c.capSent ∧ d.textSeq = c.textSeq ∧ d.joinLine = c.joinLine ∧
        (c.state = .joining → t.hasDrive i = true) ∧
        (r.echo ≠ c.driveSeqSent → c.confirmedCap ≠ c.effectiveCap → t.hasDrive i = true) ∧
        d.release = (if c.release = .sent ∧ r.echo = c.driveSeqSent then .none else c.release) ∧
        (d.release ≠ .none → t.hasDrive i = true) ∧
        d.touch = t.touched i ∧ d.zoneCap = (d.touch.map fun z => (s.zone z).cap).foldl min 255 ∧
        d.effectiveCap = d.lowestCap ∧ d.gapCap = c.gapCap ∧
        (c.textAwait = none → d.textAwait = none) ∧
        (∀ w, c.textAwait = some w →
          (r.ackValid = true → r.ackSeq = w.seq →
            d.textAwait = none ∧
              (s.link.mask.getLsbD 6 = true →
                t.link.overflow = true ∨ .textEnd i w.seq .delivered ∈ t.link.outbox)) ∧
          (r.ackValid = false ∨ r.ackSeq ≠ w.seq →
            (w.waited < 2 → d.textAwait = some { w with waited := w.waited + 1 }) ∧
            (2 ≤ w.waited → 0 < w.budget →
              d.textAwait = none ∧ ∃ e ∈ t.entries, e.job = .text i
                { level := w.level, chars := w.chars, next := 0, budget := w.budget - 1, seq := w.seq, seat := none,
                  stamp := w.stamp }) ∧
            (2 ≤ w.waited → w.budget = 0 →
              d.textAwait = none ∧
                (s.link.mask.getLsbD 6 = true →
                  t.link.overflow = true ∨ .textEnd i w.seq .failed ∈ t.link.outbox)))) ∧
        (q.grant = .awake → c.grantedDoze = .awake → d.listening = true) ∧
        d.grantedDoze = grantFor (r.doze.shallower (t.dozeCeiling i)) c.lightRun p.deepDelay ∧
        d.lightRun = (if d.grantedDoze = .awake then 0 else min 15 (c.lightRun + 1)) ∧
        (d.grantedDoze = .awake ∨ d.grantedDoze = .light →
          ∀ Y, d.home.includes Y = true → t.inService Y = true → (t.eng Y).breakPending = true) ∧
        (c.state = .joining → (s.link.notify (.carJoin .admitted (some i) c.unitId (some X))).outbox <+: t.link.outbox) ∧
        (c.state = .lost → (s.link.notify (.carFound i c.unitId X)).outbox <+: t.link.outbox) ∧
        s.GatesOpened t (fun src => src = .carHeard i ∨ (0 < c.speed ∧ r.speed = 0 ∧ src = .carStill i) ∨
          ∃ n, n ∈ d.touch ∧ n ∉ c.touch ∧ src = .carInZone i n) ∧
        (∀ j, j ≠ i → (t.car j).state = (s.car j).state ∧ (t.car j).position = (s.car j).position ∧
          (t.car j).home = (s.car j).home ∧ (t.car j).confirmedCap = (s.car j).confirmedCap) ∧
        (∀ k, (s.eng X).contextOf i = some k → d.home.includes X = true →
          t.context X k =
            { s.context X k with
              centre := 8192 * v + count, mode := .narrow, narrowMisses := 0, history := history
              gain := adjustGain (s.context X k).gain level, dirty := true }) ∧
        s.LinkKept t ∧ s.SettingsKept t ∧ t.halt = s.halt ∧ t.asks = s.asks)

/-! ## Invariants that every step keeps, from every state -/

/-- R136: a gate that holds an entry has credit 0, and every credit lies in 0 to 15. -/
def Obligations.StepsKeepGatesOrderly : Prop :=
  ∀ s t : State, s.GatesOrderly → step s = .next t → t.GatesOrderly

/-- R158, R162, R164: the latch is set exactly while one of its causes is. -/
def Obligations.StepsKeepTheLatchCaused : Prop :=
  ∀ s t : State, s.LatchHasCause → step s = .next t → t.LatchHasCause

/-- R131: every non-FREE car has the lowest of its head, zone and gap caps as its effective cap. -/
def Obligations.StepsKeepCapsLowest : Prop :=
  ∀ s t : State, s.CapsLowest → step s = .next t → t.CapsLowest

/-- R81, R93: a car owns at most one context of a line, and a line out of service has only free contexts. -/
def Obligations.StepsKeepContextsOwnedOnce : Prop :=
  ∀ s t : State, s.OneContextEach → s.RestingContextsFree → step s = .next t → t.OneContextEach ∧ t.RestingContextsFree

/-- R110, R22: every uncertainty lies within 0 to 100,000 dm, and so does every ranging tolerance. -/
def Obligations.StepsKeepUncertaintyBounded : Prop :=
  ∀ s t : State, s.UncertaintyBounded → step s = .next t → t.UncertaintyBounded

/-- R42, R74, R172: at most four ASSIGN entries, at most four asks, of distinct units, and at most 32 notices in the outbox. -/
def Obligations.StepsKeepListsBounded : Prop :=
  ∀ s t : State, s.AssignsBounded → s.AsksOrderly → s.OutboxBounded → step s = .next t →
    t.AssignsBounded ∧ t.AsksOrderly ∧ t.OutboxBounded

/-- R42, R60: at most one POLL and one DRIVE for each car, at most one ASSIGN for each unit, and at most 40 pool entries in
use. The premise on FREE slots is kept by a statement of its own. -/
def Obligations.StepsKeepTheQueueOrderly : Prop :=
  ∀ s t : State, s.NoTraceOfFreeSlots → s.QueueOrderly → step s = .next t → t.QueueOrderly

/-- R1, R17, R18, R74, R94, R137, R145: no POLL, DRIVE, TEXT or ASSIGN ROOM of the queue, no held entry, no context and no
poll slot in progress refers to a FREE slot, the units of the roster are valid and all different, and no ask is of a unit in
the roster. Gate sources too name no FREE slot, unless RESTART, which keeps them, is the command (R21, R146). -/
def Obligations.StepsKeepTheRosterOrderly : Prop :=
  ∀ s t : State, s.OneContextEach → s.NoTraceOfFreeSlots → s.UnitsOrderly → step s = .next t →
    t.NoTraceOfFreeSlots ∧ t.UnitsOrderly ∧
      (s.SourcesPresent → (∀ rest, s.pending ≠ .restart :: rest) → t.SourcesPresent)
end

