-- ==== Sys2Proof/Laws/State.lean ====
section
/-! SUPPORT. One lemma per field per update of the state (all true by definition), and the read-after-write laws of lines,
cars, gates and contexts. -/

namespace Sys2Proof.Machine

/-! ## Lines -/

theorem otherLine_otherLine (X : LineId) : otherLine (otherLine X) = X := by cases X <;> rfl
theorem otherLine_ne (X : LineId) : otherLine X ≠ X := by cases X <;> decide
theorem ne_otherLine (X : LineId) : X ≠ otherLine X := by cases X <;> decide

/-- A line is `X` or the other one. -/
theorem line_cases (X Y : LineId) : Y = X ∨ Y = otherLine X := by cases X <;> cases Y <;> simp [otherLine]

@[simp] theorem eng_A (s : State) : s.eng .A = s.lineA := rfl
@[simp] theorem eng_B (s : State) : s.eng .B = s.lineB := rfl

@[simp] theorem eng_setEng (s : State) (X : LineId) (e : Engine) : (s.setEng X e).eng X = e := by cases X <;> rfl
theorem eng_setEng_ne (s : State) {X Y : LineId} (h : Y ≠ X) (e : Engine) : (s.setEng X e).eng Y = s.eng Y := by
  cases X <;> cases Y <;> first | rfl | exact absurd rfl h
@[simp] theorem eng_setEng_other (s : State) (X : LineId) (e : Engine) :
    (s.setEng X e).eng (otherLine X) = s.eng (otherLine X) := by cases X <;> rfl
@[simp] theorem setEng_eng (s : State) (X : LineId) : s.setEng X (s.eng X) = s := by cases X <;> rfl
theorem setEng_setEng (s : State) (X : LineId) (e f : Engine) : (s.setEng X e).setEng X f = s.setEng X f := by
  cases X <;> rfl

@[simp] theorem eng_modEng (s : State) (X : LineId) (f : Engine → Engine) : (s.modEng X f).eng X = f (s.eng X) :=
  eng_setEng s X _
theorem eng_modEng_ne (s : State) {X Y : LineId} (h : Y ≠ X) (f : Engine → Engine) :
    (s.modEng X f).eng Y = s.eng Y := eng_setEng_ne s h _
@[simp] theorem eng_modEng_other (s : State) (X : LineId) (f : Engine → Engine) :
    (s.modEng X f).eng (otherLine X) = s.eng (otherLine X) := eng_setEng_other s X _
@[simp] theorem modEng_A_lineA (s : State) (f : Engine → Engine) : (s.modEng .A f).lineA = f s.lineA := rfl
@[simp] theorem modEng_A_lineB (s : State) (f : Engine → Engine) : (s.modEng .A f).lineB = s.lineB := rfl
@[simp] theorem modEng_B_lineA (s : State) (f : Engine → Engine) : (s.modEng .B f).lineA = s.lineA := rfl
@[simp] theorem modEng_B_lineB (s : State) (f : Engine → Engine) : (s.modEng .B f).lineB = f s.lineB := rfl

/-- Two states with the same lines have the same engines. -/
theorem eng_congr {s t : State} (ha : t.lineA = s.lineA) (hb : t.lineB = s.lineB) (X : LineId) : t.eng X = s.eng X := by
  cases X <;> simpa

@[simp] theorem setEng_cars (s : State) (X : LineId) (e : Engine) : (s.setEng X e).cars = s.cars := by cases X <;> rfl
@[simp] theorem setEng_queue (s : State) (X : LineId) (e : Engine) : (s.setEng X e).queue = s.queue := by cases X <;> rfl
@[simp] theorem setEng_gates (s : State) (X : LineId) (e : Engine) : (s.setEng X e).gates = s.gates := by cases X <;> rfl
@[simp] theorem setEng_zones (s : State) (X : LineId) (e : Engine) : (s.setEng X e).zones = s.zones := by cases X <;> rfl
@[simp] theorem setEng_way (s : State) (X : LineId) (e : Engine) : (s.setEng X e).way = s.way := by cases X <;> rfl
@[simp] theorem setEng_asks (s : State) (X : LineId) (e : Engine) : (s.setEng X e).asks = s.asks := by cases X <;> rfl
@[simp] theorem setEng_admission (s : State) (X : LineId) (e : Engine) : (s.setEng X e).admission = s.admission := by cases X <;> rfl
@[simp] theorem setEng_halt (s : State) (X : LineId) (e : Engine) : (s.setEng X e).halt = s.halt := by cases X <;> rfl
@[simp] theorem setEng_link (s : State) (X : LineId) (e : Engine) : (s.setEng X e).link = s.link := by cases X <;> rfl
@[simp] theorem setEng_choices (s : State) (X : LineId) (e : Engine) : (s.setEng X e).choices = s.choices := by cases X <;> rfl
@[simp] theorem setEng_pending (s : State) (X : LineId) (e : Engine) : (s.setEng X e).pending = s.pending := by cases X <;> rfl
@[simp] theorem modEng_cars (s : State) (X : LineId) (f : Engine → Engine) : (s.modEng X f).cars = s.cars := by cases X <;> rfl
@[simp] theorem modEng_queue (s : State) (X : LineId) (f : Engine → Engine) : (s.modEng X f).queue = s.queue := by cases X <;> rfl
@[simp] theorem modEng_gates (s : State) (X : LineId) (f : Engine → Engine) : (s.modEng X f).gates = s.gates := by cases X <;> rfl
@[simp] theorem modEng_zones (s : State) (X : LineId) (f : Engine → Engine) : (s.modEng X f).zones = s.zones := by cases X <;> rfl
@[simp] theorem modEng_way (s : State) (X : LineId) (f : Engine → Engine) : (s.modEng X f).way = s.way := by cases X <;> rfl
@[simp] theorem modEng_asks (s : State) (X : LineId) (f : Engine → Engine) : (s.modEng X f).asks = s.asks := by cases X <;> rfl
@[simp] theorem modEng_admission (s : State) (X : LineId) (f : Engine → Engine) : (s.modEng X f).admission = s.admission := by cases X <;> rfl
@[simp] theorem modEng_halt (s : State) (X : LineId) (f : Engine → Engine) : (s.modEng X f).halt = s.halt := by cases X <;> rfl
@[simp] theorem modEng_link (s : State) (X : LineId) (f : Engine → Engine) : (s.modEng X f).link = s.link := by cases X <;> rfl
@[simp] theorem modEng_choices (s : State) (X : LineId) (f : Engine → Engine) : (s.modEng X f).choices = s.choices := by cases X <;> rfl
@[simp] theorem modEng_pending (s : State) (X : LineId) (f : Engine → Engine) : (s.modEng X f).pending = s.pending := by cases X <;> rfl

/-! ## Cars -/

@[simp] theorem setCar_lineA (s : State) (i : CarIx) (c : Car) : (s.setCar i c).lineA = s.lineA := rfl
@[simp] theorem setCar_lineB (s : State) (i : CarIx) (c : Car) : (s.setCar i c).lineB = s.lineB := rfl
@[simp] theorem setCar_queue (s : State) (i : CarIx) (c : Car) : (s.setCar i c).queue = s.queue := rfl
@[simp] theorem setCar_gates (s : State) (i : CarIx) (c : Car) : (s.setCar i c).gates = s.gates := rfl
@[simp] theorem setCar_zones (s : State) (i : CarIx) (c : Car) : (s.setCar i c).zones = s.zones := rfl
@[simp] theorem setCar_way (s : State) (i : CarIx) (c : Car) : (s.setCar i c).way = s.way := rfl
@[simp] theorem setCar_asks (s : State) (i : CarIx) (c : Car) : (s.setCar i c).asks = s.asks := rfl
@[simp] theorem setCar_admission (s : State) (i : CarIx) (c : Car) : (s.setCar i c).admission = s.admission := rfl
@[simp] theorem setCar_halt (s : State) (i : CarIx) (c : Car) : (s.setCar i c).halt = s.halt := rfl
@[simp] theorem setCar_link (s : State) (i : CarIx) (c : Car) : (s.setCar i c).link = s.link := rfl
@[simp] theorem setCar_choices (s : State) (i : CarIx) (c : Car) : (s.setCar i c).choices = s.choices := rfl
@[simp] theorem setCar_pending (s : State) (i : CarIx) (c : Car) : (s.setCar i c).pending = s.pending := rfl
@[simp] theorem modCar_lineA (s : State) (i : CarIx) (f : Car → Car) : (s.modCar i f).lineA = s.lineA := rfl
@[simp] theorem modCar_lineB (s : State) (i : CarIx) (f : Car → Car) : (s.modCar i f).lineB = s.lineB := rfl
@[simp] theorem modCar_queue (s : State) (i : CarIx) (f : Car → Car) : (s.modCar i f).queue = s.queue := rfl
@[simp] theorem modCar_gates (s : State) (i : CarIx) (f : Car → Car) : (s.modCar i f).gates = s.gates := rfl
@[simp] theorem modCar_zones (s : State) (i : CarIx) (f : Car → Car) : (s.modCar i f).zones = s.zones := rfl
@[simp] theorem modCar_way (s : State) (i : CarIx) (f : Car → Car) : (s.modCar i f).way = s.way := rfl
@[simp] theorem modCar_asks (s : State) (i : CarIx) (f : Car → Car) : (s.modCar i f).asks = s.asks := rfl
@[simp] theorem modCar_admission (s : State) (i : CarIx) (f : Car → Car) : (s.modCar i f).admission = s.admission := rfl
@[simp] theorem modCar_halt (s : State) (i : CarIx) (f : Car → Car) : (s.modCar i f).halt = s.halt := rfl
@[simp] theorem modCar_link (s : State) (i : CarIx) (f : Car → Car) : (s.modCar i f).link = s.link := rfl
@[simp] theorem modCar_choices (s : State) (i : CarIx) (f : Car → Car) : (s.modCar i f).choices = s.choices := rfl
@[simp] theorem modCar_pending (s : State) (i : CarIx) (f : Car → Car) : (s.modCar i f).pending = s.pending := rfl

@[simp] theorem setCar_eng (s : State) (i : CarIx) (c : Car) (X : LineId) : (s.setCar i c).eng X = s.eng X := by
  cases X <;> rfl
@[simp] theorem modCar_eng (s : State) (i : CarIx) (f : Car → Car) (X : LineId) : (s.modCar i f).eng X = s.eng X := by
  cases X <;> rfl
@[simp] theorem setEng_car (s : State) (X : LineId) (e : Engine) (i : CarIx) : (s.setEng X e).car i = s.car i := by
  cases X <;> rfl
@[simp] theorem modEng_car (s : State) (X : LineId) (f : Engine → Engine) (i : CarIx) : (s.modEng X f).car i = s.car i := by
  cases X <;> rfl

@[simp] theorem car_setCar (s : State) (i : CarIx) (c : Car) : (s.setCar i c).car i = c := by
  simp [State.car, State.setCar]
theorem car_setCar_ne (s : State) {i j : CarIx} (h : j ≠ i) (c : Car) : (s.setCar i c).car j = s.car j := by
  have h' : (i : Nat) ≠ (j : Nat) := fun e => h (Fin.ext e.symm)
  simp [State.car, State.setCar, Vector.getElem_set_ne, h']
@[simp] theorem car_modCar (s : State) (i : CarIx) (f : Car → Car) : (s.modCar i f).car i = f (s.car i) := car_setCar s i _
theorem car_modCar_ne (s : State) {i j : CarIx} (h : j ≠ i) (f : Car → Car) : (s.modCar i f).car j = s.car j :=
  car_setCar_ne s h _
/-- Reading any car after an update of car `i`. -/
theorem car_modCar_ite (s : State) (i j : CarIx) (f : Car → Car) :
    (s.modCar i f).car j = if j = i then f (s.car j) else s.car j := by
  split
  · subst_vars; exact car_modCar s _ f
  · exact car_modCar_ne s ‹_› f

/-- Two states with the same records have the same cars. -/
theorem car_congr {s t : State} (h : t.cars = s.cars) (i : CarIx) : t.car i = s.car i := by simp [State.car, h]

/-! ## Gates -/

@[simp] theorem setGate_lineA (s : State) (g : Fin 8) (x : Gate) : (s.setGate g x).lineA = s.lineA := rfl
@[simp] theorem setGate_lineB (s : State) (g : Fin 8) (x : Gate) : (s.setGate g x).lineB = s.lineB := rfl
@[simp] theorem setGate_cars (s : State) (g : Fin 8) (x : Gate) : (s.setGate g x).cars = s.cars := rfl
@[simp] theorem setGate_queue (s : State) (g : Fin 8) (x : Gate) : (s.setGate g x).queue = s.queue := rfl
@[simp] theorem setGate_zones (s : State) (g : Fin 8) (x : Gate) : (s.setGate g x).zones = s.zones := rfl
@[simp] theorem setGate_way (s : State) (g : Fin 8) (x : Gate) : (s.setGate g x).way = s.way := rfl
@[simp] theorem setGate_asks (s : State) (g : Fin 8) (x : Gate) : (s.setGate g x).asks = s.asks := rfl
@[simp] theorem setGate_admission (s : State) (g : Fin 8) (x : Gate) : (s.setGate g x).admission = s.admission := rfl
@[simp] theorem setGate_halt (s : State) (g : Fin 8) (x : Gate) : (s.setGate g x).halt = s.halt := rfl
@[simp] theorem setGate_link (s : State) (g : Fin 8) (x : Gate) : (s.setGate g x).link = s.link := rfl
@[simp] theorem setGate_choices (s : State) (g : Fin 8) (x : Gate) : (s.setGate g x).choices = s.choices := rfl
@[simp] theorem setGate_pending (s : State) (g : Fin 8) (x : Gate) : (s.setGate g x).pending = s.pending := rfl
@[simp] theorem modGate_lineA (s : State) (g : Fin 8) (f : Gate → Gate) : (s.modGate g f).lineA = s.lineA := rfl
@[simp] theorem modGate_lineB (s : State) (g : Fin 8) (f : Gate → Gate) : (s.modGate g f).lineB = s.lineB := rfl
@[simp] theorem modGate_cars (s : State) (g : Fin 8) (f : Gate → Gate) : (s.modGate g f).cars = s.cars := rfl
@[simp] theorem modGate_queue (s : State) (g : Fin 8) (f : Gate → Gate) : (s.modGate g f).queue = s.queue := rfl
@[simp] theorem modGate_zones (s : State) (g : Fin 8) (f : Gate → Gate) : (s.modGate g f).zones = s.zones := rfl
@[simp] theorem modGate_way (s : State) (g : Fin 8) (f : Gate → Gate) : (s.modGate g f).way = s.way := rfl
@[simp] theorem modGate_asks (s : State) (g : Fin 8) (f : Gate → Gate) : (s.modGate g f).asks = s.asks := rfl
@[simp] theorem modGate_admission (s : State) (g : Fin 8) (f : Gate → Gate) : (s.modGate g f).admission = s.admission := rfl
@[simp] theorem modGate_halt (s : State) (g : Fin 8) (f : Gate → Gate) : (s.modGate g f).halt = s.halt := rfl
@[simp] theorem modGate_link (s : State) (g : Fin 8) (f : Gate → Gate) : (s.modGate g f).link = s.link := rfl
@[simp] theorem modGate_choices (s : State) (g : Fin 8) (f : Gate → Gate) : (s.modGate g f).choices = s.choices := rfl
@[simp] theorem modGate_pending (s : State) (g : Fin 8) (f : Gate → Gate) : (s.modGate g f).pending = s.pending := rfl

@[simp] theorem gate_setGate (s : State) (g : Fin 8) (x : Gate) : (s.setGate g x).gate g = x := by
  simp [State.gate, State.setGate]
theorem gate_setGate_ne (s : State) {g h : Fin 8} (hne : h ≠ g) (x : Gate) : (s.setGate g x).gate h = s.gate h := by
  have h' : (g : Nat) ≠ (h : Nat) := fun e => hne (Fin.ext e.symm)
  simp [State.gate, State.setGate, Vector.getElem_set_ne, h']
@[simp] theorem gate_modGate (s : State) (g : Fin 8) (f : Gate → Gate) : (s.modGate g f).gate g = f (s.gate g) :=
  gate_setGate s g _
theorem gate_modGate_ne (s : State) {g h : Fin 8} (hne : h ≠ g) (f : Gate → Gate) :
    (s.modGate g f).gate h = s.gate h := gate_setGate_ne s hne _
theorem gate_congr {s t : State} (h : t.gates = s.gates) (g : Fin 8) : t.gate g = s.gate g := by simp [State.gate, h]

/-! ## Contexts -/

@[simp] theorem context_setContext (e : Engine) (k : Fin 6) (c : Ctx) : (e.setContext k c).context k = c := by
  simp [Engine.context, Engine.setContext]
theorem context_setContext_ne (e : Engine) {k l : Fin 6} (h : l ≠ k) (c : Ctx) :
    (e.setContext k c).context l = e.context l := by
  have h' : (k : Nat) ≠ (l : Nat) := fun e => h (Fin.ext e.symm)
  simp [Engine.context, Engine.setContext, Vector.getElem_set_ne, h']
@[simp] theorem setContext_state (e : Engine) (k : Fin 6) (c : Ctx) : (e.setContext k c).state = e.state := rfl
@[simp] theorem setContext_params (e : Engine) (k : Fin 6) (c : Ctx) : (e.setContext k c).params = e.params := rfl
@[simp] theorem setContext_plan (e : Engine) (k : Fin 6) (c : Ctx) : (e.setContext k c).plan = e.plan := rfl
@[simp] theorem setContext_staged (e : Engine) (k : Fin 6) (c : Ctx) : (e.setContext k c).staged = e.staged := rfl
@[simp] theorem setContext_cycle (e : Engine) (k : Fin 6) (c : Ctx) : (e.setContext k c).cycle = e.cycle := rfl
@[simp] theorem setContext_slot (e : Engine) (k : Fin 6) (c : Ctx) : (e.setContext k c).slot = e.slot := rfl
@[simp] theorem setContext_slotOver (e : Engine) (k : Fin 6) (c : Ctx) : (e.setContext k c).slotOver = e.slotOver := rfl
@[simp] theorem setContext_joinOpen (e : Engine) (k : Fin 6) (c : Ctx) : (e.setContext k c).joinOpen = e.joinOpen := rfl
@[simp] theorem setContext_listening (e : Engine) (k : Fin 6) (c : Ctx) : (e.setContext k c).listening = e.listening := rfl
@[simp] theorem setContext_idle (e : Engine) (k : Fin 6) (c : Ctx) : (e.setContext k c).idle = e.idle := rfl
@[simp] theorem setContext_traffic (e : Engine) (k : Fin 6) (c : Ctx) : (e.setContext k c).traffic = e.traffic := rfl
@[simp] theorem setContext_breakPending (e : Engine) (k : Fin 6) (c : Ctx) : (e.setContext k c).breakPending = e.breakPending := rfl
@[simp] theorem setContext_restartPending (e : Engine) (k : Fin 6) (c : Ctx) : (e.setContext k c).restartPending = e.restartPending := rfl
@[simp] theorem setContext_faultIn (e : Engine) (k : Fin 6) (c : Ctx) : (e.setContext k c).faultIn = e.faultIn := rfl
@[simp] theorem setContext_burst (e : Engine) (k : Fin 6) (c : Ctx) : (e.setContext k c).burst = e.burst := rfl
@[simp] theorem setContext_poll (e : Engine) (k : Fin 6) (c : Ctx) : (e.setContext k c).poll = e.poll := rfl
@[simp] theorem setContext_ranging (e : Engine) (k : Fin 6) (c : Ctx) : (e.setContext k c).ranging = e.ranging := rfl
@[simp] theorem setContext_joinRx (e : Engine) (k : Fin 6) (c : Ctx) : (e.setContext k c).joinRx = e.joinRx := rfl
@[simp] theorem setContext_cycleTimer (e : Engine) (k : Fin 6) (c : Ctx) : (e.setContext k c).cycleTimer = e.cycleTimer := rfl
@[simp] theorem setContext_slotTimer (e : Engine) (k : Fin 6) (c : Ctx) : (e.setContext k c).slotTimer = e.slotTimer := rfl

/-! ## The queue -/

@[simp] theorem mapLevels_lineA (s : State) (f : List Entry → List Entry) : (s.mapLevels f).lineA = s.lineA := rfl
@[simp] theorem mapLevels_lineB (s : State) (f : List Entry → List Entry) : (s.mapLevels f).lineB = s.lineB := rfl
@[simp] theorem mapLevels_cars (s : State) (f : List Entry → List Entry) : (s.mapLevels f).cars = s.cars := rfl
@[simp] theorem mapLevels_gates (s : State) (f : List Entry → List Entry) : (s.mapLevels f).gates = s.gates := rfl
@[simp] theorem mapLevels_zones (s : State) (f : List Entry → List Entry) : (s.mapLevels f).zones = s.zones := rfl
@[simp] theorem mapLevels_way (s : State) (f : List Entry → List Entry) : (s.mapLevels f).way = s.way := rfl
@[simp] theorem mapLevels_asks (s : State) (f : List Entry → List Entry) : (s.mapLevels f).asks = s.asks := rfl
@[simp] theorem mapLevels_admission (s : State) (f : List Entry → List Entry) : (s.mapLevels f).admission = s.admission := rfl
@[simp] theorem mapLevels_halt (s : State) (f : List Entry → List Entry) : (s.mapLevels f).halt = s.halt := rfl
@[simp] theorem mapLevels_link (s : State) (f : List Entry → List Entry) : (s.mapLevels f).link = s.link := rfl
@[simp] theorem mapLevels_choices (s : State) (f : List Entry → List Entry) : (s.mapLevels f).choices = s.choices := rfl
@[simp] theorem mapLevels_pending (s : State) (f : List Entry → List Entry) : (s.mapLevels f).pending = s.pending := rfl
@[simp] theorem dropEntries_lineA (s : State) (p : Entry → Bool) : (s.dropEntries p).lineA = s.lineA := rfl
@[simp] theorem dropEntries_lineB (s : State) (p : Entry → Bool) : (s.dropEntries p).lineB = s.lineB := rfl
@[simp] theorem dropEntries_cars (s : State) (p : Entry → Bool) : (s.dropEntries p).cars = s.cars := rfl
@[simp] theorem dropEntries_gates (s : State) (p : Entry → Bool) : (s.dropEntries p).gates = s.gates := rfl
@[simp] theorem dropEntries_zones (s : State) (p : Entry → Bool) : (s.dropEntries p).zones = s.zones := rfl
@[simp] theorem dropEntries_way (s : State) (p : Entry → Bool) : (s.dropEntries p).way = s.way := rfl
@[simp] theorem dropEntries_asks (s : State) (p : Entry → Bool) : (s.dropEntries p).asks = s.asks := rfl
@[simp] theorem dropEntries_admission (s : State) (p : Entry → Bool) : (s.dropEntries p).admission = s.admission := rfl
@[simp] theorem dropEntries_halt (s : State) (p : Entry → Bool) : (s.dropEntries p).halt = s.halt := rfl
@[simp] theorem dropEntries_link (s : State) (p : Entry → Bool) : (s.dropEntries p).link = s.link := rfl
@[simp] theorem dropEntries_choices (s : State) (p : Entry → Bool) : (s.dropEntries p).choices = s.choices := rfl
@[simp] theorem dropEntries_pending (s : State) (p : Entry → Bool) : (s.dropEntries p).pending = s.pending := rfl
@[simp] theorem mapEntries_lineA (s : State) (f : Entry → Entry) : (s.mapEntries f).lineA = s.lineA := rfl
@[simp] theorem mapEntries_lineB (s : State) (f : Entry → Entry) : (s.mapEntries f).lineB = s.lineB := rfl
@[simp] theorem mapEntries_cars (s : State) (f : Entry → Entry) : (s.mapEntries f).cars = s.cars := rfl
@[simp] theorem mapEntries_gates (s : State) (f : Entry → Entry) : (s.mapEntries f).gates = s.gates := rfl
@[simp] theorem mapEntries_zones (s : State) (f : Entry → Entry) : (s.mapEntries f).zones = s.zones := rfl
@[simp] theorem mapEntries_way (s : State) (f : Entry → Entry) : (s.mapEntries f).way = s.way := rfl
@[simp] theorem mapEntries_asks (s : State) (f : Entry → Entry) : (s.mapEntries f).asks = s.asks := rfl
@[simp] theorem mapEntries_admission (s : State) (f : Entry → Entry) : (s.mapEntries f).admission = s.admission := rfl
@[simp] theorem mapEntries_halt (s : State) (f : Entry → Entry) : (s.mapEntries f).halt = s.halt := rfl
@[simp] theorem mapEntries_link (s : State) (f : Entry → Entry) : (s.mapEntries f).link = s.link := rfl
@[simp] theorem mapEntries_choices (s : State) (f : Entry → Entry) : (s.mapEntries f).choices = s.choices := rfl
@[simp] theorem mapEntries_pending (s : State) (f : Entry → Entry) : (s.mapEntries f).pending = s.pending := rfl
@[simp] theorem putTail_lineA (s : State) (l : Fin 8) (e : Entry) : (s.putTail l e).lineA = s.lineA := rfl
@[simp] theorem putTail_lineB (s : State) (l : Fin 8) (e : Entry) : (s.putTail l e).lineB = s.lineB := rfl
@[simp] theorem putTail_cars (s : State) (l : Fin 8) (e : Entry) : (s.putTail l e).cars = s.cars := rfl
@[simp] theorem putTail_gates (s : State) (l : Fin 8) (e : Entry) : (s.putTail l e).gates = s.gates := rfl
@[simp] theorem putTail_zones (s : State) (l : Fin 8) (e : Entry) : (s.putTail l e).zones = s.zones := rfl
@[simp] theorem putTail_way (s : State) (l : Fin 8) (e : Entry) : (s.putTail l e).way = s.way := rfl
@[simp] theorem putTail_asks (s : State) (l : Fin 8) (e : Entry) : (s.putTail l e).asks = s.asks := rfl
@[simp] theorem putTail_admission (s : State) (l : Fin 8) (e : Entry) : (s.putTail l e).admission = s.admission := rfl
@[simp] theorem putTail_halt (s : State) (l : Fin 8) (e : Entry) : (s.putTail l e).halt = s.halt := rfl
@[simp] theorem putTail_link (s : State) (l : Fin 8) (e : Entry) : (s.putTail l e).link = s.link := rfl
@[simp] theorem putTail_choices (s : State) (l : Fin 8) (e : Entry) : (s.putTail l e).choices = s.choices := rfl
@[simp] theorem putTail_pending (s : State) (l : Fin 8) (e : Entry) : (s.putTail l e).pending = s.pending := rfl
@[simp] theorem putHead_lineA (s : State) (l : Fin 8) (e : Entry) : (s.putHead l e).lineA = s.lineA := rfl
@[simp] theorem putHead_lineB (s : State) (l : Fin 8) (e : Entry) : (s.putHead l e).lineB = s.lineB := rfl
@[simp] theorem putHead_cars (s : State) (l : Fin 8) (e : Entry) : (s.putHead l e).cars = s.cars := rfl
@[simp] theorem putHead_gates (s : State) (l : Fin 8) (e : Entry) : (s.putHead l e).gates = s.gates := rfl
@[simp] theorem putHead_zones (s : State) (l : Fin 8) (e : Entry) : (s.putHead l e).zones = s.zones := rfl
@[simp] theorem putHead_way (s : State) (l : Fin 8) (e : Entry) : (s.putHead l e).way = s.way := rfl
@[simp] theorem putHead_asks (s : State) (l : Fin 8) (e : Entry) : (s.putHead l e).asks = s.asks := rfl
@[simp] theorem putHead_admission (s : State) (l : Fin 8) (e : Entry) : (s.putHead l e).admission = s.admission := rfl
@[simp] theorem putHead_halt (s : State) (l : Fin 8) (e : Entry) : (s.putHead l e).halt = s.halt := rfl
@[simp] theorem putHead_link (s : State) (l : Fin 8) (e : Entry) : (s.putHead l e).link = s.link := rfl
@[simp] theorem putHead_choices (s : State) (l : Fin 8) (e : Entry) : (s.putHead l e).choices = s.choices := rfl
@[simp] theorem putHead_pending (s : State) (l : Fin 8) (e : Entry) : (s.putHead l e).pending = s.pending := rfl
@[simp] theorem put_lineA (s : State) (p : Placement) (l : Fin 8) (e : Entry) : (s.put p l e).lineA = s.lineA := by cases p <;> rfl
@[simp] theorem put_lineB (s : State) (p : Placement) (l : Fin 8) (e : Entry) : (s.put p l e).lineB = s.lineB := by cases p <;> rfl
@[simp] theorem put_cars (s : State) (p : Placement) (l : Fin 8) (e : Entry) : (s.put p l e).cars = s.cars := by cases p <;> rfl
@[simp] theorem put_gates (s : State) (p : Placement) (l : Fin 8) (e : Entry) : (s.put p l e).gates = s.gates := by cases p <;> rfl
@[simp] theorem put_zones (s : State) (p : Placement) (l : Fin 8) (e : Entry) : (s.put p l e).zones = s.zones := by cases p <;> rfl
@[simp] theorem put_way (s : State) (p : Placement) (l : Fin 8) (e : Entry) : (s.put p l e).way = s.way := by cases p <;> rfl
@[simp] theorem put_asks (s : State) (p : Placement) (l : Fin 8) (e : Entry) : (s.put p l e).asks = s.asks := by cases p <;> rfl
@[simp] theorem put_admission (s : State) (p : Placement) (l : Fin 8) (e : Entry) : (s.put p l e).admission = s.admission := by cases p <;> rfl
@[simp] theorem put_halt (s : State) (p : Placement) (l : Fin 8) (e : Entry) : (s.put p l e).halt = s.halt := by cases p <;> rfl
@[simp] theorem put_link (s : State) (p : Placement) (l : Fin 8) (e : Entry) : (s.put p l e).link = s.link := by cases p <;> rfl
@[simp] theorem put_choices (s : State) (p : Placement) (l : Fin 8) (e : Entry) : (s.put p l e).choices = s.choices := by cases p <;> rfl
@[simp] theorem put_pending (s : State) (p : Placement) (l : Fin 8) (e : Entry) : (s.put p l e).pending = s.pending := by cases p <;> rfl
@[simp] theorem disengage_lineA (s : State) (X : LineId) : (s.disengage X).lineA = s.lineA := rfl
@[simp] theorem disengage_lineB (s : State) (X : LineId) : (s.disengage X).lineB = s.lineB := rfl
@[simp] theorem disengage_cars (s : State) (X : LineId) : (s.disengage X).cars = s.cars := rfl
@[simp] theorem disengage_gates (s : State) (X : LineId) : (s.disengage X).gates = s.gates := rfl
@[simp] theorem disengage_zones (s : State) (X : LineId) : (s.disengage X).zones = s.zones := rfl
@[simp] theorem disengage_way (s : State) (X : LineId) : (s.disengage X).way = s.way := rfl
@[simp] theorem disengage_asks (s : State) (X : LineId) : (s.disengage X).asks = s.asks := rfl
@[simp] theorem disengage_admission (s : State) (X : LineId) : (s.disengage X).admission = s.admission := rfl
@[simp] theorem disengage_halt (s : State) (X : LineId) : (s.disengage X).halt = s.halt := rfl
@[simp] theorem disengage_link (s : State) (X : LineId) : (s.disengage X).link = s.link := rfl
@[simp] theorem disengage_choices (s : State) (X : LineId) : (s.disengage X).choices = s.choices := rfl
@[simp] theorem disengage_pending (s : State) (X : LineId) : (s.disengage X).pending = s.pending := rfl

@[simp] theorem mapLevels_car (s : State) (f : List Entry → List Entry) (i : CarIx) : (s.mapLevels f).car i = s.car i := rfl
@[simp] theorem dropEntries_car (s : State) (p : Entry → Bool) (i : CarIx) : (s.dropEntries p).car i = s.car i := rfl
@[simp] theorem mapEntries_car (s : State) (f : Entry → Entry) (i : CarIx) : (s.mapEntries f).car i = s.car i := rfl
@[simp] theorem putTail_car (s : State) (l : Fin 8) (e : Entry) (i : CarIx) : (s.putTail l e).car i = s.car i := rfl
@[simp] theorem mapLevels_eng (s : State) (f : List Entry → List Entry) (X : LineId) : (s.mapLevels f).eng X = s.eng X := by
  cases X <;> rfl
@[simp] theorem dropEntries_eng (s : State) (p : Entry → Bool) (X : LineId) : (s.dropEntries p).eng X = s.eng X := by
  cases X <;> rfl
@[simp] theorem mapEntries_eng (s : State) (f : Entry → Entry) (X : LineId) : (s.mapEntries f).eng X = s.eng X := by
  cases X <;> rfl
@[simp] theorem putTail_eng (s : State) (l : Fin 8) (e : Entry) (X : LineId) : (s.putTail l e).eng X = s.eng X := by
  cases X <;> rfl

/-! ## Notices and orders left open -/

@[simp] theorem notify_lineA (s : State) (n : Notice) : (s.notify n).lineA = s.lineA := rfl
@[simp] theorem notify_lineB (s : State) (n : Notice) : (s.notify n).lineB = s.lineB := rfl
@[simp] theorem notify_cars (s : State) (n : Notice) : (s.notify n).cars = s.cars := rfl
@[simp] theorem notify_queue (s : State) (n : Notice) : (s.notify n).queue = s.queue := rfl
@[simp] theorem notify_gates (s : State) (n : Notice) : (s.notify n).gates = s.gates := rfl
@[simp] theorem notify_zones (s : State) (n : Notice) : (s.notify n).zones = s.zones := rfl
@[simp] theorem notify_way (s : State) (n : Notice) : (s.notify n).way = s.way := rfl
@[simp] theorem notify_asks (s : State) (n : Notice) : (s.notify n).asks = s.asks := rfl
@[simp] theorem notify_admission (s : State) (n : Notice) : (s.notify n).admission = s.admission := rfl
@[simp] theorem notify_halt (s : State) (n : Notice) : (s.notify n).halt = s.halt := rfl
@[simp] theorem notify_choices (s : State) (n : Notice) : (s.notify n).choices = s.choices := rfl
@[simp] theorem notify_pending (s : State) (n : Notice) : (s.notify n).pending = s.pending := rfl
@[simp] theorem notify_car (s : State) (n : Notice) (i : CarIx) : (s.notify n).car i = s.car i := rfl
@[simp] theorem notify_eng (s : State) (n : Notice) (X : LineId) : (s.notify n).eng X = s.eng X := by cases X <;> rfl

/-- Generating a notice changes the outbox and the overflow flag alone, and never lengthens the outbox past 32 (R172). -/
theorem notify_frame (k : Link) (n : Notice) :
    ∃ l b, k.notify n = { k with outbox := l, overflow := b } ∧ (k.outbox.length ≤ 32 → l.length ≤ 32) ∧
      (k.overflow = true → b = true) ∧ k.outbox <+: l := by
  unfold Link.notify
  split
  · split
    · next h => exact ⟨_, _, rfl, fun _ => by simp [Config.outboxSize] at h ⊢; omega, id, List.prefix_append _ _⟩
    · exact ⟨_, _, rfl, id, fun _ => rfl, List.prefix_refl _⟩
  · exact ⟨_, _, rfl, id, id, List.prefix_refl _⟩

/-- An order left open is an order: every element of the list once. -/
theorem arrange_perm {α : Type} (n : Nat) (choices : Choices) (l : List α) : (arrange n choices l).1.Perm l := by
  induction n generalizing choices l with
  | zero => simp [arrange]
  | succ n ih =>
    match l with
    | [] => simp [arrange]
    | [a] => simp [arrange]
    | a :: b :: l =>
      have hk : choices.head % (a :: b :: l).length < (a :: b :: l).length :=
        Nat.mod_lt _ (by simp)
      have := (ih choices.tail ((a :: b :: l).eraseIdx (choices.head % (a :: b :: l).length))).cons
        ((a :: b :: l)[choices.head % (a :: b :: l).length])
      simp only [arrange, List.getD_eq_getElem?_getD, List.getElem?_eq_getElem hk, Option.getD_some]
      exact this.trans (List.getElem_cons_eraseIdx_perm hk)

theorem inSomeOrder_perm {α : Type} (s : State) (l : List α) : (s.inSomeOrder l).1.Perm l := arrange_perm _ _ _

/-- Taking an order uses up choices and changes nothing else. -/
theorem inSomeOrder_state {α : Type} (s : State) (l : List α) :
    (s.inSomeOrder l).2 = { s with choices := (arrange l.length s.choices l).2 } := rfl

@[simp] theorem inSomeOrder_lineA {α : Type} (s : State) (l : List α) : (s.inSomeOrder l).2.lineA = s.lineA := rfl
@[simp] theorem inSomeOrder_lineB {α : Type} (s : State) (l : List α) : (s.inSomeOrder l).2.lineB = s.lineB := rfl
@[simp] theorem inSomeOrder_cars {α : Type} (s : State) (l : List α) : (s.inSomeOrder l).2.cars = s.cars := rfl
@[simp] theorem inSomeOrder_queue {α : Type} (s : State) (l : List α) : (s.inSomeOrder l).2.queue = s.queue := rfl
@[simp] theorem inSomeOrder_gates {α : Type} (s : State) (l : List α) : (s.inSomeOrder l).2.gates = s.gates := rfl
@[simp] theorem inSomeOrder_zones {α : Type} (s : State) (l : List α) : (s.inSomeOrder l).2.zones = s.zones := rfl
@[simp] theorem inSomeOrder_way {α : Type} (s : State) (l : List α) : (s.inSomeOrder l).2.way = s.way := rfl
@[simp] theorem inSomeOrder_asks {α : Type} (s : State) (l : List α) : (s.inSomeOrder l).2.asks = s.asks := rfl
@[simp] theorem inSomeOrder_admission {α : Type} (s : State) (l : List α) : (s.inSomeOrder l).2.admission = s.admission := rfl
@[simp] theorem inSomeOrder_halt {α : Type} (s : State) (l : List α) : (s.inSomeOrder l).2.halt = s.halt := rfl
@[simp] theorem inSomeOrder_link {α : Type} (s : State) (l : List α) : (s.inSomeOrder l).2.link = s.link := rfl
@[simp] theorem inSomeOrder_pending {α : Type} (s : State) (l : List α) : (s.inSomeOrder l).2.pending = s.pending := rfl

/-! ## Reading a line or a car past an update of something else -/

@[simp] theorem put_eng (s : State) (p : Placement) (l : Fin 8) (e : Entry) (X : LineId) : (s.put p l e).eng X = s.eng X := by
  cases X <;> simp
@[simp] theorem setGate_eng (s : State) (g : Fin 8) (x : Gate) (X : LineId) : (s.setGate g x).eng X = s.eng X := by
  cases X <;> rfl
@[simp] theorem modGate_eng (s : State) (g : Fin 8) (f : Gate → Gate) (X : LineId) : (s.modGate g f).eng X = s.eng X := by
  cases X <;> rfl
@[simp] theorem inSomeOrder_eng {α : Type} (s : State) (l : List α) (X : LineId) : (s.inSomeOrder l).2.eng X = s.eng X := by
  cases X <;> rfl
@[simp] theorem put_car (s : State) (p : Placement) (l : Fin 8) (e : Entry) (i : CarIx) : (s.put p l e).car i = s.car i := by
  cases p <;> rfl
@[simp] theorem setGate_car (s : State) (g : Fin 8) (x : Gate) (i : CarIx) : (s.setGate g x).car i = s.car i := rfl
@[simp] theorem modGate_car (s : State) (g : Fin 8) (f : Gate → Gate) (i : CarIx) : (s.modGate g f).car i = s.car i := rfl
@[simp] theorem inSomeOrder_car {α : Type} (s : State) (l : List α) (i : CarIx) : (s.inSomeOrder l).2.car i = s.car i := rfl
@[simp] theorem with_cars_eng (s : State) (x : Vector Car 48) (X : LineId) : ({ s with cars := x } : State).eng X = s.eng X := by
  cases X <;> rfl
@[simp] theorem with_queue_eng (s : State) (x : Vector (List Entry) 8) (X : LineId) : ({ s with queue := x } : State).eng X = s.eng X := by
  cases X <;> rfl
@[simp] theorem with_queue_car (s : State) (x : Vector (List Entry) 8) (i : CarIx) : ({ s with queue := x } : State).car i = s.car i := rfl
@[simp] theorem with_gates_eng (s : State) (x : Vector Gate 8) (X : LineId) : ({ s with gates := x } : State).eng X = s.eng X := by
  cases X <;> rfl
@[simp] theorem with_gates_car (s : State) (x : Vector Gate 8) (i : CarIx) : ({ s with gates := x } : State).car i = s.car i := rfl
@[simp] theorem with_zones_eng (s : State) (x : Vector Zone 16) (X : LineId) : ({ s with zones := x } : State).eng X = s.eng X := by
  cases X <;> rfl
@[simp] theorem with_zones_car (s : State) (x : Vector Zone 16) (i : CarIx) : ({ s with zones := x } : State).car i = s.car i := rfl
@[simp] theorem with_way_eng (s : State) (x : WayParams) (X : LineId) : ({ s with way := x } : State).eng X = s.eng X := by
  cases X <;> rfl
@[simp] theorem with_way_car (s : State) (x : WayParams) (i : CarIx) : ({ s with way := x } : State).car i = s.car i := rfl
@[simp] theorem with_asks_eng (s : State) (x : List Ask) (X : LineId) : ({ s with asks := x } : State).eng X = s.eng X := by
  cases X <;> rfl
@[simp] theorem with_asks_car (s : State) (x : List Ask) (i : CarIx) : ({ s with asks := x } : State).car i = s.car i := rfl
@[simp] theorem with_admission_eng (s : State) (x : Admission) (X : LineId) : ({ s with admission := x } : State).eng X = s.eng X := by
  cases X <;> rfl
@[simp] theorem with_admission_car (s : State) (x : Admission) (i : CarIx) : ({ s with admission := x } : State).car i = s.car i := rfl
@[simp] theorem with_halt_eng (s : State) (x : Halt) (X : LineId) : ({ s with halt := x } : State).eng X = s.eng X := by
  cases X <;> rfl
@[simp] theorem with_halt_car (s : State) (x : Halt) (i : CarIx) : ({ s with halt := x } : State).car i = s.car i := rfl
@[simp] theorem with_link_eng (s : State) (x : Link) (X : LineId) : ({ s with link := x } : State).eng X = s.eng X := by
  cases X <;> rfl
@[simp] theorem with_link_car (s : State) (x : Link) (i : CarIx) : ({ s with link := x } : State).car i = s.car i := rfl
@[simp] theorem with_choices_eng (s : State) (x : Choices) (X : LineId) : ({ s with choices := x } : State).eng X = s.eng X := by
  cases X <;> rfl
@[simp] theorem with_choices_car (s : State) (x : Choices) (i : CarIx) : ({ s with choices := x } : State).car i = s.car i := rfl
@[simp] theorem with_pending_eng (s : State) (x : List Instr) (X : LineId) : ({ s with pending := x } : State).eng X = s.eng X := by
  cases X <;> rfl
@[simp] theorem with_pending_car (s : State) (x : List Instr) (i : CarIx) : ({ s with pending := x } : State).car i = s.car i := rfl

/-- What each step of a fold leaves alone, the fold leaves alone. -/
theorem foldl_frame {α β : Type} (F : State → β) (f : State → α → State) (h : ∀ s a, F (f s a) = F s) (l : List α) (s : State) :
    F (l.foldl f s) = F s := by
  induction l generalizing s with
  | nil => rfl
  | cons a l ih => simp [ih, h]

/-- What each step of a fold keeps, the fold keeps. -/
theorem foldl_keeps {α : Type} (P : State → Prop) (f : State → α → State) (h : ∀ s a, P s → P (f s a)) (l : List α) (s : State)
    (hs : P s) : P (l.foldl f s) := by
  induction l generalizing s with
  | nil => exact hs
  | cons a l ih => exact ih _ (h s a hs)

end Sys2Proof.Machine
end

