-- ==== Sys2Proof/Laws/Frames.lean ====
section
/-! SUPPORT. What each operation of the machine leaves alone: one lemma per operation and untouched field. -/

namespace Sys2Proof.Machine

set_option linter.unusedTactic false
set_option linter.unreachableTactic false
set_option linter.unnecessarySeqFocus false
set_option linter.unusedSimpArgs false

@[simp] theorem foldl_notify_lineA {α : Type} (f : α → Notice) (l : List α) (s : State) :
    (l.foldl (fun s a => s.notify (f a)) s).lineA = s.lineA := foldl_frame State.lineA (fun s a => s.notify (f a)) (fun _ _ => rfl) l s
@[simp] theorem foldl_notify_lineB {α : Type} (f : α → Notice) (l : List α) (s : State) :
    (l.foldl (fun s a => s.notify (f a)) s).lineB = s.lineB := foldl_frame State.lineB (fun s a => s.notify (f a)) (fun _ _ => rfl) l s
@[simp] theorem foldl_notify_cars {α : Type} (f : α → Notice) (l : List α) (s : State) :
    (l.foldl (fun s a => s.notify (f a)) s).cars = s.cars := foldl_frame State.cars (fun s a => s.notify (f a)) (fun _ _ => rfl) l s
@[simp] theorem foldl_notify_queue {α : Type} (f : α → Notice) (l : List α) (s : State) :
    (l.foldl (fun s a => s.notify (f a)) s).queue = s.queue := foldl_frame State.queue (fun s a => s.notify (f a)) (fun _ _ => rfl) l s
@[simp] theorem foldl_notify_gates {α : Type} (f : α → Notice) (l : List α) (s : State) :
    (l.foldl (fun s a => s.notify (f a)) s).gates = s.gates := foldl_frame State.gates (fun s a => s.notify (f a)) (fun _ _ => rfl) l s
@[simp] theorem foldl_notify_zones {α : Type} (f : α → Notice) (l : List α) (s : State) :
    (l.foldl (fun s a => s.notify (f a)) s).zones = s.zones := foldl_frame State.zones (fun s a => s.notify (f a)) (fun _ _ => rfl) l s
@[simp] theorem foldl_notify_way {α : Type} (f : α → Notice) (l : List α) (s : State) :
    (l.foldl (fun s a => s.notify (f a)) s).way = s.way := foldl_frame State.way (fun s a => s.notify (f a)) (fun _ _ => rfl) l s
@[simp] theorem foldl_notify_asks {α : Type} (f : α → Notice) (l : List α) (s : State) :
    (l.foldl (fun s a => s.notify (f a)) s).asks = s.asks := foldl_frame State.asks (fun s a => s.notify (f a)) (fun _ _ => rfl) l s
@[simp] theorem foldl_notify_admission {α : Type} (f : α → Notice) (l : List α) (s : State) :
    (l.foldl (fun s a => s.notify (f a)) s).admission = s.admission := foldl_frame State.admission (fun s a => s.notify (f a)) (fun _ _ => rfl) l s
@[simp] theorem foldl_notify_halt {α : Type} (f : α → Notice) (l : List α) (s : State) :
    (l.foldl (fun s a => s.notify (f a)) s).halt = s.halt := foldl_frame State.halt (fun s a => s.notify (f a)) (fun _ _ => rfl) l s
@[simp] theorem foldl_notify_choices {α : Type} (f : α → Notice) (l : List α) (s : State) :
    (l.foldl (fun s a => s.notify (f a)) s).choices = s.choices := foldl_frame State.choices (fun s a => s.notify (f a)) (fun _ _ => rfl) l s
@[simp] theorem foldl_notify_pending {α : Type} (f : α → Notice) (l : List α) (s : State) :
    (l.foldl (fun s a => s.notify (f a)) s).pending = s.pending := foldl_frame State.pending (fun s a => s.notify (f a)) (fun _ _ => rfl) l s
@[simp] theorem breakLine_cars (s : State) (X : LineId) :
    (s.breakLine X).cars = s.cars := by unfold State.breakLine; (try dsimp only); (repeat' split) <;> first | (simp; done) | with_reducible rfl
@[simp] theorem breakLine_queue (s : State) (X : LineId) :
    (s.breakLine X).queue = s.queue := by unfold State.breakLine; (try dsimp only); (repeat' split) <;> first | (simp; done) | with_reducible rfl
@[simp] theorem breakLine_gates (s : State) (X : LineId) :
    (s.breakLine X).gates = s.gates := by unfold State.breakLine; (try dsimp only); (repeat' split) <;> first | (simp; done) | with_reducible rfl
@[simp] theorem breakLine_zones (s : State) (X : LineId) :
    (s.breakLine X).zones = s.zones := by unfold State.breakLine; (try dsimp only); (repeat' split) <;> first | (simp; done) | with_reducible rfl
@[simp] theorem breakLine_way (s : State) (X : LineId) :
    (s.breakLine X).way = s.way := by unfold State.breakLine; (try dsimp only); (repeat' split) <;> first | (simp; done) | with_reducible rfl
@[simp] theorem breakLine_asks (s : State) (X : LineId) :
    (s.breakLine X).asks = s.asks := by unfold State.breakLine; (try dsimp only); (repeat' split) <;> first | (simp; done) | with_reducible rfl
@[simp] theorem breakLine_admission (s : State) (X : LineId) :
    (s.breakLine X).admission = s.admission := by unfold State.breakLine; (try dsimp only); (repeat' split) <;> first | (simp; done) | with_reducible rfl
@[simp] theorem breakLine_halt (s : State) (X : LineId) :
    (s.breakLine X).halt = s.halt := by unfold State.breakLine; (try dsimp only); (repeat' split) <;> first | (simp; done) | with_reducible rfl
@[simp] theorem breakLine_link (s : State) (X : LineId) :
    (s.breakLine X).link = s.link := by unfold State.breakLine; (try dsimp only); (repeat' split) <;> first | (simp; done) | with_reducible rfl
@[simp] theorem breakLine_choices (s : State) (X : LineId) :
    (s.breakLine X).choices = s.choices := by unfold State.breakLine; (try dsimp only); (repeat' split) <;> first | (simp; done) | with_reducible rfl
@[simp] theorem breakLine_pending (s : State) (X : LineId) :
    (s.breakLine X).pending = s.pending := by unfold State.breakLine; (try dsimp only); (repeat' split) <;> first | (simp; done) | with_reducible rfl
@[simp] theorem breakHome_cars (s : State) (h : Home) :
    (s.breakHome h).cars = s.cars := by unfold State.breakHome; (try dsimp only); (repeat' split) <;> first | (simp; done) | with_reducible rfl
@[simp] theorem breakHome_queue (s : State) (h : Home) :
    (s.breakHome h).queue = s.queue := by unfold State.breakHome; (try dsimp only); (repeat' split) <;> first | (simp; done) | with_reducible rfl
@[simp] theorem breakHome_gates (s : State) (h : Home) :
    (s.breakHome h).gates = s.gates := by unfold State.breakHome; (try dsimp only); (repeat' split) <;> first | (simp; done) | with_reducible rfl
@[simp] theorem breakHome_zones (s : State) (h : Home) :
    (s.breakHome h).zones = s.zones := by unfold State.breakHome; (try dsimp only); (repeat' split) <;> first | (simp; done) | with_reducible rfl
@[simp] theorem breakHome_way (s : State) (h : Home) :
    (s.breakHome h).way = s.way := by unfold State.breakHome; (try dsimp only); (repeat' split) <;> first | (simp; done) | with_reducible rfl
@[simp] theorem breakHome_asks (s : State) (h : Home) :
    (s.breakHome h).asks = s.asks := by unfold State.breakHome; (try dsimp only); (repeat' split) <;> first | (simp; done) | with_reducible rfl
@[simp] theorem breakHome_admission (s : State) (h : Home) :
    (s.breakHome h).admission = s.admission := by unfold State.breakHome; (try dsimp only); (repeat' split) <;> first | (simp; done) | with_reducible rfl
@[simp] theorem breakHome_halt (s : State) (h : Home) :
    (s.breakHome h).halt = s.halt := by unfold State.breakHome; (try dsimp only); (repeat' split) <;> first | (simp; done) | with_reducible rfl
@[simp] theorem breakHome_link (s : State) (h : Home) :
    (s.breakHome h).link = s.link := by unfold State.breakHome; (try dsimp only); (repeat' split) <;> first | (simp; done) | with_reducible rfl
@[simp] theorem breakHome_choices (s : State) (h : Home) :
    (s.breakHome h).choices = s.choices := by unfold State.breakHome; (try dsimp only); (repeat' split) <;> first | (simp; done) | with_reducible rfl
@[simp] theorem breakHome_pending (s : State) (h : Home) :
    (s.breakHome h).pending = s.pending := by unfold State.breakHome; (try dsimp only); (repeat' split) <;> first | (simp; done) | with_reducible rfl
@[simp] theorem judgeLine_cars (s : State) (p : Entry → Bool) (X : LineId) :
    (s.judgeLine p X).cars = s.cars := by unfold State.judgeLine; (try dsimp only); (repeat' split) <;> first | (simp; done) | with_reducible rfl
@[simp] theorem judgeLine_queue (s : State) (p : Entry → Bool) (X : LineId) :
    (s.judgeLine p X).queue = s.queue := by unfold State.judgeLine; (try dsimp only); (repeat' split) <;> first | (simp; done) | with_reducible rfl
@[simp] theorem judgeLine_gates (s : State) (p : Entry → Bool) (X : LineId) :
    (s.judgeLine p X).gates = s.gates := by unfold State.judgeLine; (try dsimp only); (repeat' split) <;> first | (simp; done) | with_reducible rfl
@[simp] theorem judgeLine_zones (s : State) (p : Entry → Bool) (X : LineId) :
    (s.judgeLine p X).zones = s.zones := by unfold State.judgeLine; (try dsimp only); (repeat' split) <;> first | (simp; done) | with_reducible rfl
@[simp] theorem judgeLine_way (s : State) (p : Entry → Bool) (X : LineId) :
    (s.judgeLine p X).way = s.way := by unfold State.judgeLine; (try dsimp only); (repeat' split) <;> first | (simp; done) | with_reducible rfl
@[simp] theorem judgeLine_asks (s : State) (p : Entry → Bool) (X : LineId) :
    (s.judgeLine p X).asks = s.asks := by unfold State.judgeLine; (try dsimp only); (repeat' split) <;> first | (simp; done) | with_reducible rfl
@[simp] theorem judgeLine_admission (s : State) (p : Entry → Bool) (X : LineId) :
    (s.judgeLine p X).admission = s.admission := by unfold State.judgeLine; (try dsimp only); (repeat' split) <;> first | (simp; done) | with_reducible rfl
@[simp] theorem judgeLine_halt (s : State) (p : Entry → Bool) (X : LineId) :
    (s.judgeLine p X).halt = s.halt := by unfold State.judgeLine; (try dsimp only); (repeat' split) <;> first | (simp; done) | with_reducible rfl
@[simp] theorem judgeLine_link (s : State) (p : Entry → Bool) (X : LineId) :
    (s.judgeLine p X).link = s.link := by unfold State.judgeLine; (try dsimp only); (repeat' split) <;> first | (simp; done) | with_reducible rfl
@[simp] theorem judgeLine_choices (s : State) (p : Entry → Bool) (X : LineId) :
    (s.judgeLine p X).choices = s.choices := by unfold State.judgeLine; (try dsimp only); (repeat' split) <;> first | (simp; done) | with_reducible rfl
@[simp] theorem judgeLine_pending (s : State) (p : Entry → Bool) (X : LineId) :
    (s.judgeLine p X).pending = s.pending := by unfold State.judgeLine; (try dsimp only); (repeat' split) <;> first | (simp; done) | with_reducible rfl
@[simp] theorem judge_cars (s : State) (p : Entry → Bool) :
    (s.judge p).cars = s.cars := by unfold State.judge; (try dsimp only); (repeat' split) <;> first | (simp; done) | with_reducible rfl
@[simp] theorem judge_queue (s : State) (p : Entry → Bool) :
    (s.judge p).queue = s.queue := by unfold State.judge; (try dsimp only); (repeat' split) <;> first | (simp; done) | with_reducible rfl
@[simp] theorem judge_gates (s : State) (p : Entry → Bool) :
    (s.judge p).gates = s.gates := by unfold State.judge; (try dsimp only); (repeat' split) <;> first | (simp; done) | with_reducible rfl
@[simp] theorem judge_zones (s : State) (p : Entry → Bool) :
    (s.judge p).zones = s.zones := by unfold State.judge; (try dsimp only); (repeat' split) <;> first | (simp; done) | with_reducible rfl
@[simp] theorem judge_way (s : State) (p : Entry → Bool) :
    (s.judge p).way = s.way := by unfold State.judge; (try dsimp only); (repeat' split) <;> first | (simp; done) | with_reducible rfl
@[simp] theorem judge_asks (s : State) (p : Entry → Bool) :
    (s.judge p).asks = s.asks := by unfold State.judge; (try dsimp only); (repeat' split) <;> first | (simp; done) | with_reducible rfl
@[simp] theorem judge_admission (s : State) (p : Entry → Bool) :
    (s.judge p).admission = s.admission := by unfold State.judge; (try dsimp only); (repeat' split) <;> first | (simp; done) | with_reducible rfl
@[simp] theorem judge_halt (s : State) (p : Entry → Bool) :
    (s.judge p).halt = s.halt := by unfold State.judge; (try dsimp only); (repeat' split) <;> first | (simp; done) | with_reducible rfl
@[simp] theorem judge_link (s : State) (p : Entry → Bool) :
    (s.judge p).link = s.link := by unfold State.judge; (try dsimp only); (repeat' split) <;> first | (simp; done) | with_reducible rfl
@[simp] theorem judge_choices (s : State) (p : Entry → Bool) :
    (s.judge p).choices = s.choices := by unfold State.judge; (try dsimp only); (repeat' split) <;> first | (simp; done) | with_reducible rfl
@[simp] theorem judge_pending (s : State) (p : Entry → Bool) :
    (s.judge p).pending = s.pending := by unfold State.judge; (try dsimp only); (repeat' split) <;> first | (simp; done) | with_reducible rfl
@[simp] theorem startListening_queue (s : State) (i : CarIx) :
    (s.startListening i).queue = s.queue := by unfold State.startListening; (try dsimp only); (repeat' split) <;> first | (simp; done) | with_reducible rfl
@[simp] theorem startListening_gates (s : State) (i : CarIx) :
    (s.startListening i).gates = s.gates := by unfold State.startListening; (try dsimp only); (repeat' split) <;> first | (simp; done) | with_reducible rfl
@[simp] theorem startListening_zones (s : State) (i : CarIx) :
    (s.startListening i).zones = s.zones := by unfold State.startListening; (try dsimp only); (repeat' split) <;> first | (simp; done) | with_reducible rfl
@[simp] theorem startListening_way (s : State) (i : CarIx) :
    (s.startListening i).way = s.way := by unfold State.startListening; (try dsimp only); (repeat' split) <;> first | (simp; done) | with_reducible rfl
@[simp] theorem startListening_asks (s : State) (i : CarIx) :
    (s.startListening i).asks = s.asks := by unfold State.startListening; (try dsimp only); (repeat' split) <;> first | (simp; done) | with_reducible rfl
@[simp] theorem startListening_admission (s : State) (i : CarIx) :
    (s.startListening i).admission = s.admission := by unfold State.startListening; (try dsimp only); (repeat' split) <;> first | (simp; done) | with_reducible rfl
@[simp] theorem startListening_halt (s : State) (i : CarIx) :
    (s.startListening i).halt = s.halt := by unfold State.startListening; (try dsimp only); (repeat' split) <;> first | (simp; done) | with_reducible rfl
@[simp] theorem startListening_link (s : State) (i : CarIx) :
    (s.startListening i).link = s.link := by unfold State.startListening; (try dsimp only); (repeat' split) <;> first | (simp; done) | with_reducible rfl
@[simp] theorem startListening_choices (s : State) (i : CarIx) :
    (s.startListening i).choices = s.choices := by unfold State.startListening; (try dsimp only); (repeat' split) <;> first | (simp; done) | with_reducible rfl
@[simp] theorem startListening_pending (s : State) (i : CarIx) :
    (s.startListening i).pending = s.pending := by unfold State.startListening; (try dsimp only); (repeat' split) <;> first | (simp; done) | with_reducible rfl
@[simp] theorem wake_queue (s : State) (i : CarIx) :
    (s.wake i).queue = s.queue := by unfold State.wake; (try dsimp only); (repeat' split) <;> first | (simp; done) | with_reducible rfl
@[simp] theorem wake_gates (s : State) (i : CarIx) :
    (s.wake i).gates = s.gates := by unfold State.wake; (try dsimp only); (repeat' split) <;> first | (simp; done) | with_reducible rfl
@[simp] theorem wake_zones (s : State) (i : CarIx) :
    (s.wake i).zones = s.zones := by unfold State.wake; (try dsimp only); (repeat' split) <;> first | (simp; done) | with_reducible rfl
@[simp] theorem wake_way (s : State) (i : CarIx) :
    (s.wake i).way = s.way := by unfold State.wake; (try dsimp only); (repeat' split) <;> first | (simp; done) | with_reducible rfl
@[simp] theorem wake_asks (s : State) (i : CarIx) :
    (s.wake i).asks = s.asks := by unfold State.wake; (try dsimp only); (repeat' split) <;> first | (simp; done) | with_reducible rfl
@[simp] theorem wake_admission (s : State) (i : CarIx) :
    (s.wake i).admission = s.admission := by unfold State.wake; (try dsimp only); (repeat' split) <;> first | (simp; done) | with_reducible rfl
@[simp] theorem wake_halt (s : State) (i : CarIx) :
    (s.wake i).halt = s.halt := by unfold State.wake; (try dsimp only); (repeat' split) <;> first | (simp; done) | with_reducible rfl
@[simp] theorem wake_link (s : State) (i : CarIx) :
    (s.wake i).link = s.link := by unfold State.wake; (try dsimp only); (repeat' split) <;> first | (simp; done) | with_reducible rfl
@[simp] theorem wake_choices (s : State) (i : CarIx) :
    (s.wake i).choices = s.choices := by unfold State.wake; (try dsimp only); (repeat' split) <;> first | (simp; done) | with_reducible rfl
@[simp] theorem wake_pending (s : State) (i : CarIx) :
    (s.wake i).pending = s.pending := by unfold State.wake; (try dsimp only); (repeat' split) <;> first | (simp; done) | with_reducible rfl
@[simp] theorem moveToTail_lineA (s : State) (p : Entry → Bool) (l : Fin 8) :
    (s.moveToTail p l).lineA = s.lineA := by exact (foldl_frame State.lineA (fun s e => s.putTail l e) (fun _ _ => rfl) _ _).trans rfl
@[simp] theorem moveToTail_lineB (s : State) (p : Entry → Bool) (l : Fin 8) :
    (s.moveToTail p l).lineB = s.lineB := by exact (foldl_frame State.lineB (fun s e => s.putTail l e) (fun _ _ => rfl) _ _).trans rfl
@[simp] theorem moveToTail_cars (s : State) (p : Entry → Bool) (l : Fin 8) :
    (s.moveToTail p l).cars = s.cars := by exact (foldl_frame State.cars (fun s e => s.putTail l e) (fun _ _ => rfl) _ _).trans rfl
@[simp] theorem moveToTail_gates (s : State) (p : Entry → Bool) (l : Fin 8) :
    (s.moveToTail p l).gates = s.gates := by exact (foldl_frame State.gates (fun s e => s.putTail l e) (fun _ _ => rfl) _ _).trans rfl
@[simp] theorem moveToTail_zones (s : State) (p : Entry → Bool) (l : Fin 8) :
    (s.moveToTail p l).zones = s.zones := by exact (foldl_frame State.zones (fun s e => s.putTail l e) (fun _ _ => rfl) _ _).trans rfl
@[simp] theorem moveToTail_way (s : State) (p : Entry → Bool) (l : Fin 8) :
    (s.moveToTail p l).way = s.way := by exact (foldl_frame State.way (fun s e => s.putTail l e) (fun _ _ => rfl) _ _).trans rfl
@[simp] theorem moveToTail_asks (s : State) (p : Entry → Bool) (l : Fin 8) :
    (s.moveToTail p l).asks = s.asks := by exact (foldl_frame State.asks (fun s e => s.putTail l e) (fun _ _ => rfl) _ _).trans rfl
@[simp] theorem moveToTail_admission (s : State) (p : Entry → Bool) (l : Fin 8) :
    (s.moveToTail p l).admission = s.admission := by exact (foldl_frame State.admission (fun s e => s.putTail l e) (fun _ _ => rfl) _ _).trans rfl
@[simp] theorem moveToTail_halt (s : State) (p : Entry → Bool) (l : Fin 8) :
    (s.moveToTail p l).halt = s.halt := by exact (foldl_frame State.halt (fun s e => s.putTail l e) (fun _ _ => rfl) _ _).trans rfl
@[simp] theorem moveToTail_link (s : State) (p : Entry → Bool) (l : Fin 8) :
    (s.moveToTail p l).link = s.link := by exact (foldl_frame State.link (fun s e => s.putTail l e) (fun _ _ => rfl) _ _).trans rfl
@[simp] theorem moveToTail_choices (s : State) (p : Entry → Bool) (l : Fin 8) :
    (s.moveToTail p l).choices = s.choices := by exact (foldl_frame State.choices (fun s e => s.putTail l e) (fun _ _ => rfl) _ _).trans rfl
@[simp] theorem moveToTail_pending (s : State) (p : Entry → Bool) (l : Fin 8) :
    (s.moveToTail p l).pending = s.pending := by exact (foldl_frame State.pending (fun s e => s.putTail l e) (fun _ _ => rfl) _ _).trans rfl
@[simp] theorem ensureDrive_cars (s : State) (i : CarIx) (u : Bool) :
    (s.ensureDrive i u).cars = s.cars := by unfold State.ensureDrive; (try dsimp only); (repeat' split) <;> first | (simp; done) | with_reducible rfl
@[simp] theorem ensureDrive_gates (s : State) (i : CarIx) (u : Bool) :
    (s.ensureDrive i u).gates = s.gates := by unfold State.ensureDrive; (try dsimp only); (repeat' split) <;> first | (simp; done) | with_reducible rfl
@[simp] theorem ensureDrive_zones (s : State) (i : CarIx) (u : Bool) :
    (s.ensureDrive i u).zones = s.zones := by unfold State.ensureDrive; (try dsimp only); (repeat' split) <;> first | (simp; done) | with_reducible rfl
@[simp] theorem ensureDrive_way (s : State) (i : CarIx) (u : Bool) :
    (s.ensureDrive i u).way = s.way := by unfold State.ensureDrive; (try dsimp only); (repeat' split) <;> first | (simp; done) | with_reducible rfl
@[simp] theorem ensureDrive_asks (s : State) (i : CarIx) (u : Bool) :
    (s.ensureDrive i u).asks = s.asks := by unfold State.ensureDrive; (try dsimp only); (repeat' split) <;> first | (simp; done) | with_reducible rfl
@[simp] theorem ensureDrive_admission (s : State) (i : CarIx) (u : Bool) :
    (s.ensureDrive i u).admission = s.admission := by unfold State.ensureDrive; (try dsimp only); (repeat' split) <;> first | (simp; done) | with_reducible rfl
@[simp] theorem ensureDrive_halt (s : State) (i : CarIx) (u : Bool) :
    (s.ensureDrive i u).halt = s.halt := by unfold State.ensureDrive; (try dsimp only); (repeat' split) <;> first | (simp; done) | with_reducible rfl
@[simp] theorem ensureDrive_link (s : State) (i : CarIx) (u : Bool) :
    (s.ensureDrive i u).link = s.link := by unfold State.ensureDrive; (try dsimp only); (repeat' split) <;> first | (simp; done) | with_reducible rfl
@[simp] theorem ensureDrive_choices (s : State) (i : CarIx) (u : Bool) :
    (s.ensureDrive i u).choices = s.choices := by unfold State.ensureDrive; (try dsimp only); (repeat' split) <;> first | (simp; done) | with_reducible rfl
@[simp] theorem ensureDrive_pending (s : State) (i : CarIx) (u : Bool) :
    (s.ensureDrive i u).pending = s.pending := by unfold State.ensureDrive; (try dsimp only); (repeat' split) <;> first | (simp; done) | with_reducible rfl
@[simp] theorem offerAssign_cars (s : State) (a : Assign) :
    (s.offerAssign a).cars = s.cars := by unfold State.offerAssign; (try dsimp only); (repeat' split) <;> first | (simp; done) | with_reducible rfl
@[simp] theorem offerAssign_gates (s : State) (a : Assign) :
    (s.offerAssign a).gates = s.gates := by unfold State.offerAssign; (try dsimp only); (repeat' split) <;> first | (simp; done) | with_reducible rfl
@[simp] theorem offerAssign_zones (s : State) (a : Assign) :
    (s.offerAssign a).zones = s.zones := by unfold State.offerAssign; (try dsimp only); (repeat' split) <;> first | (simp; done) | with_reducible rfl
@[simp] theorem offerAssign_way (s : State) (a : Assign) :
    (s.offerAssign a).way = s.way := by unfold State.offerAssign; (try dsimp only); (repeat' split) <;> first | (simp; done) | with_reducible rfl
@[simp] theorem offerAssign_asks (s : State) (a : Assign) :
    (s.offerAssign a).asks = s.asks := by unfold State.offerAssign; (try dsimp only); (repeat' split) <;> first | (simp; done) | with_reducible rfl
@[simp] theorem offerAssign_admission (s : State) (a : Assign) :
    (s.offerAssign a).admission = s.admission := by unfold State.offerAssign; (try dsimp only); (repeat' split) <;> first | (simp; done) | with_reducible rfl
@[simp] theorem offerAssign_halt (s : State) (a : Assign) :
    (s.offerAssign a).halt = s.halt := by unfold State.offerAssign; (try dsimp only); (repeat' split) <;> first | (simp; done) | with_reducible rfl
@[simp] theorem offerAssign_link (s : State) (a : Assign) :
    (s.offerAssign a).link = s.link := by unfold State.offerAssign; (try dsimp only); (repeat' split) <;> first | (simp; done) | with_reducible rfl
@[simp] theorem offerAssign_choices (s : State) (a : Assign) :
    (s.offerAssign a).choices = s.choices := by unfold State.offerAssign; (try dsimp only); (repeat' split) <;> first | (simp; done) | with_reducible rfl
@[simp] theorem offerAssign_pending (s : State) (a : Assign) :
    (s.offerAssign a).pending = s.pending := by unfold State.offerAssign; (try dsimp only); (repeat' split) <;> first | (simp; done) | with_reducible rfl
@[simp] theorem queueText_gates (s : State) (p : Placement) (i : CarIx) (t : Text) :
    (s.queueText p i t).gates = s.gates := by unfold State.queueText; (try dsimp only); (repeat' split) <;> first | (simp; done) | with_reducible rfl
@[simp] theorem queueText_zones (s : State) (p : Placement) (i : CarIx) (t : Text) :
    (s.queueText p i t).zones = s.zones := by unfold State.queueText; (try dsimp only); (repeat' split) <;> first | (simp; done) | with_reducible rfl
@[simp] theorem queueText_way (s : State) (p : Placement) (i : CarIx) (t : Text) :
    (s.queueText p i t).way = s.way := by unfold State.queueText; (try dsimp only); (repeat' split) <;> first | (simp; done) | with_reducible rfl
@[simp] theorem queueText_asks (s : State) (p : Placement) (i : CarIx) (t : Text) :
    (s.queueText p i t).asks = s.asks := by unfold State.queueText; (try dsimp only); (repeat' split) <;> first | (simp; done) | with_reducible rfl
@[simp] theorem queueText_admission (s : State) (p : Placement) (i : CarIx) (t : Text) :
    (s.queueText p i t).admission = s.admission := by unfold State.queueText; (try dsimp only); (repeat' split) <;> first | (simp; done) | with_reducible rfl
@[simp] theorem queueText_halt (s : State) (p : Placement) (i : CarIx) (t : Text) :
    (s.queueText p i t).halt = s.halt := by unfold State.queueText; (try dsimp only); (repeat' split) <;> first | (simp; done) | with_reducible rfl
@[simp] theorem queueText_link (s : State) (p : Placement) (i : CarIx) (t : Text) :
    (s.queueText p i t).link = s.link := by unfold State.queueText; (try dsimp only); (repeat' split) <;> first | (simp; done) | with_reducible rfl
@[simp] theorem queueText_choices (s : State) (p : Placement) (i : CarIx) (t : Text) :
    (s.queueText p i t).choices = s.choices := by unfold State.queueText; (try dsimp only); (repeat' split) <;> first | (simp; done) | with_reducible rfl
@[simp] theorem queueText_pending (s : State) (p : Placement) (i : CarIx) (t : Text) :
    (s.queueText p i t).pending = s.pending := by unfold State.queueText; (try dsimp only); (repeat' split) <;> first | (simp; done) | with_reducible rfl
@[simp] theorem enterText_gates (s : State) (p : Placement) (i : CarIx) (t : Text) :
    (s.enterText p i t).gates = s.gates := by unfold State.enterText; (try dsimp only); (repeat' split) <;> first | (simp; done) | with_reducible rfl
@[simp] theorem enterText_zones (s : State) (p : Placement) (i : CarIx) (t : Text) :
    (s.enterText p i t).zones = s.zones := by unfold State.enterText; (try dsimp only); (repeat' split) <;> first | (simp; done) | with_reducible rfl
@[simp] theorem enterText_way (s : State) (p : Placement) (i : CarIx) (t : Text) :
    (s.enterText p i t).way = s.way := by unfold State.enterText; (try dsimp only); (repeat' split) <;> first | (simp; done) | with_reducible rfl
@[simp] theorem enterText_asks (s : State) (p : Placement) (i : CarIx) (t : Text) :
    (s.enterText p i t).asks = s.asks := by unfold State.enterText; (try dsimp only); (repeat' split) <;> first | (simp; done) | with_reducible rfl
@[simp] theorem enterText_admission (s : State) (p : Placement) (i : CarIx) (t : Text) :
    (s.enterText p i t).admission = s.admission := by unfold State.enterText; (try dsimp only); (repeat' split) <;> first | (simp; done) | with_reducible rfl
@[simp] theorem enterText_halt (s : State) (p : Placement) (i : CarIx) (t : Text) :
    (s.enterText p i t).halt = s.halt := by unfold State.enterText; (try dsimp only); (repeat' split) <;> first | (simp; done) | with_reducible rfl
@[simp] theorem enterText_link (s : State) (p : Placement) (i : CarIx) (t : Text) :
    (s.enterText p i t).link = s.link := by unfold State.enterText; (try dsimp only); (repeat' split) <;> first | (simp; done) | with_reducible rfl
@[simp] theorem enterText_choices (s : State) (p : Placement) (i : CarIx) (t : Text) :
    (s.enterText p i t).choices = s.choices := by unfold State.enterText; (try dsimp only); (repeat' split) <;> first | (simp; done) | with_reducible rfl
@[simp] theorem enterText_pending (s : State) (p : Placement) (i : CarIx) (t : Text) :
    (s.enterText p i t).pending = s.pending := by unfold State.enterText; (try dsimp only); (repeat' split) <;> first | (simp; done) | with_reducible rfl
@[simp] theorem unseat_cars (s : State) (X : LineId) (p : CarIx → Bool) :
    (s.unseat X p).cars = s.cars := by unfold State.unseat; (try dsimp only); (repeat' split) <;> first | (simp; done) | with_reducible rfl
@[simp] theorem unseat_gates (s : State) (X : LineId) (p : CarIx → Bool) :
    (s.unseat X p).gates = s.gates := by unfold State.unseat; (try dsimp only); (repeat' split) <;> first | (simp; done) | with_reducible rfl
@[simp] theorem unseat_zones (s : State) (X : LineId) (p : CarIx → Bool) :
    (s.unseat X p).zones = s.zones := by unfold State.unseat; (try dsimp only); (repeat' split) <;> first | (simp; done) | with_reducible rfl
@[simp] theorem unseat_way (s : State) (X : LineId) (p : CarIx → Bool) :
    (s.unseat X p).way = s.way := by unfold State.unseat; (try dsimp only); (repeat' split) <;> first | (simp; done) | with_reducible rfl
@[simp] theorem unseat_asks (s : State) (X : LineId) (p : CarIx → Bool) :
    (s.unseat X p).asks = s.asks := by unfold State.unseat; (try dsimp only); (repeat' split) <;> first | (simp; done) | with_reducible rfl
@[simp] theorem unseat_admission (s : State) (X : LineId) (p : CarIx → Bool) :
    (s.unseat X p).admission = s.admission := by unfold State.unseat; (try dsimp only); (repeat' split) <;> first | (simp; done) | with_reducible rfl
@[simp] theorem unseat_halt (s : State) (X : LineId) (p : CarIx → Bool) :
    (s.unseat X p).halt = s.halt := by unfold State.unseat; (try dsimp only); (repeat' split) <;> first | (simp; done) | with_reducible rfl
@[simp] theorem unseat_link (s : State) (X : LineId) (p : CarIx → Bool) :
    (s.unseat X p).link = s.link := by unfold State.unseat; (try dsimp only); (repeat' split) <;> first | (simp; done) | with_reducible rfl
@[simp] theorem unseat_choices (s : State) (X : LineId) (p : CarIx → Bool) :
    (s.unseat X p).choices = s.choices := by unfold State.unseat; (try dsimp only); (repeat' split) <;> first | (simp; done) | with_reducible rfl
@[simp] theorem unseat_pending (s : State) (X : LineId) (p : CarIx → Bool) :
    (s.unseat X p).pending = s.pending := by unfold State.unseat; (try dsimp only); (repeat' split) <;> first | (simp; done) | with_reducible rfl
@[simp] theorem engage_lineA (s : State) (X : LineId) (p : Entry → Bool) :
    (s.engage X p).lineA = s.lineA := by unfold State.engage; (try dsimp only); (repeat' split) <;> first | (simp; done) | with_reducible rfl
@[simp] theorem engage_lineB (s : State) (X : LineId) (p : Entry → Bool) :
    (s.engage X p).lineB = s.lineB := by unfold State.engage; (try dsimp only); (repeat' split) <;> first | (simp; done) | with_reducible rfl
@[simp] theorem engage_cars (s : State) (X : LineId) (p : Entry → Bool) :
    (s.engage X p).cars = s.cars := by unfold State.engage; (try dsimp only); (repeat' split) <;> first | (simp; done) | with_reducible rfl
@[simp] theorem engage_gates (s : State) (X : LineId) (p : Entry → Bool) :
    (s.engage X p).gates = s.gates := by unfold State.engage; (try dsimp only); (repeat' split) <;> first | (simp; done) | with_reducible rfl
@[simp] theorem engage_zones (s : State) (X : LineId) (p : Entry → Bool) :
    (s.engage X p).zones = s.zones := by unfold State.engage; (try dsimp only); (repeat' split) <;> first | (simp; done) | with_reducible rfl
@[simp] theorem engage_way (s : State) (X : LineId) (p : Entry → Bool) :
    (s.engage X p).way = s.way := by unfold State.engage; (try dsimp only); (repeat' split) <;> first | (simp; done) | with_reducible rfl
@[simp] theorem engage_asks (s : State) (X : LineId) (p : Entry → Bool) :
    (s.engage X p).asks = s.asks := by unfold State.engage; (try dsimp only); (repeat' split) <;> first | (simp; done) | with_reducible rfl
@[simp] theorem engage_admission (s : State) (X : LineId) (p : Entry → Bool) :
    (s.engage X p).admission = s.admission := by unfold State.engage; (try dsimp only); (repeat' split) <;> first | (simp; done) | with_reducible rfl
@[simp] theorem engage_halt (s : State) (X : LineId) (p : Entry → Bool) :
    (s.engage X p).halt = s.halt := by unfold State.engage; (try dsimp only); (repeat' split) <;> first | (simp; done) | with_reducible rfl
@[simp] theorem engage_link (s : State) (X : LineId) (p : Entry → Bool) :
    (s.engage X p).link = s.link := by unfold State.engage; (try dsimp only); (repeat' split) <;> first | (simp; done) | with_reducible rfl
@[simp] theorem engage_choices (s : State) (X : LineId) (p : Entry → Bool) :
    (s.engage X p).choices = s.choices := by unfold State.engage; (try dsimp only); (repeat' split) <;> first | (simp; done) | with_reducible rfl
@[simp] theorem engage_pending (s : State) (X : LineId) (p : Entry → Bool) :
    (s.engage X p).pending = s.pending := by unfold State.engage; (try dsimp only); (repeat' split) <;> first | (simp; done) | with_reducible rfl
@[simp] theorem returnPoll_lineA (s : State) (X : LineId) :
    (s.returnPoll X).lineA = s.lineA := by unfold State.returnPoll; (try dsimp only); (repeat' split) <;> first | (simp; done) | with_reducible rfl
@[simp] theorem returnPoll_lineB (s : State) (X : LineId) :
    (s.returnPoll X).lineB = s.lineB := by unfold State.returnPoll; (try dsimp only); (repeat' split) <;> first | (simp; done) | with_reducible rfl
@[simp] theorem returnPoll_cars (s : State) (X : LineId) :
    (s.returnPoll X).cars = s.cars := by unfold State.returnPoll; (try dsimp only); (repeat' split) <;> first | (simp; done) | with_reducible rfl
@[simp] theorem returnPoll_gates (s : State) (X : LineId) :
    (s.returnPoll X).gates = s.gates := by unfold State.returnPoll; (try dsimp only); (repeat' split) <;> first | (simp; done) | with_reducible rfl
@[simp] theorem returnPoll_zones (s : State) (X : LineId) :
    (s.returnPoll X).zones = s.zones := by unfold State.returnPoll; (try dsimp only); (repeat' split) <;> first | (simp; done) | with_reducible rfl
@[simp] theorem returnPoll_way (s : State) (X : LineId) :
    (s.returnPoll X).way = s.way := by unfold State.returnPoll; (try dsimp only); (repeat' split) <;> first | (simp; done) | with_reducible rfl
@[simp] theorem returnPoll_asks (s : State) (X : LineId) :
    (s.returnPoll X).asks = s.asks := by unfold State.returnPoll; (try dsimp only); (repeat' split) <;> first | (simp; done) | with_reducible rfl
@[simp] theorem returnPoll_admission (s : State) (X : LineId) :
    (s.returnPoll X).admission = s.admission := by unfold State.returnPoll; (try dsimp only); (repeat' split) <;> first | (simp; done) | with_reducible rfl
@[simp] theorem returnPoll_halt (s : State) (X : LineId) :
    (s.returnPoll X).halt = s.halt := by unfold State.returnPoll; (try dsimp only); (repeat' split) <;> first | (simp; done) | with_reducible rfl
@[simp] theorem returnPoll_link (s : State) (X : LineId) :
    (s.returnPoll X).link = s.link := by unfold State.returnPoll; (try dsimp only); (repeat' split) <;> first | (simp; done) | with_reducible rfl
@[simp] theorem returnPoll_choices (s : State) (X : LineId) :
    (s.returnPoll X).choices = s.choices := by unfold State.returnPoll; (try dsimp only); (repeat' split) <;> first | (simp; done) | with_reducible rfl
@[simp] theorem returnPoll_pending (s : State) (X : LineId) :
    (s.returnPoll X).pending = s.pending := by unfold State.returnPoll; (try dsimp only); (repeat' split) <;> first | (simp; done) | with_reducible rfl
@[simp] theorem recompute_gates (s : State) (i : CarIx) :
    (s.recompute i).gates = s.gates := by unfold State.recompute; (try dsimp only); (repeat' split) <;> first | (simp; done) | with_reducible rfl
@[simp] theorem recompute_zones (s : State) (i : CarIx) :
    (s.recompute i).zones = s.zones := by unfold State.recompute; (try dsimp only); (repeat' split) <;> first | (simp; done) | with_reducible rfl
@[simp] theorem recompute_way (s : State) (i : CarIx) :
    (s.recompute i).way = s.way := by unfold State.recompute; (try dsimp only); (repeat' split) <;> first | (simp; done) | with_reducible rfl
@[simp] theorem recompute_asks (s : State) (i : CarIx) :
    (s.recompute i).asks = s.asks := by unfold State.recompute; (try dsimp only); (repeat' split) <;> first | (simp; done) | with_reducible rfl
@[simp] theorem recompute_admission (s : State) (i : CarIx) :
    (s.recompute i).admission = s.admission := by unfold State.recompute; (try dsimp only); (repeat' split) <;> first | (simp; done) | with_reducible rfl
@[simp] theorem recompute_halt (s : State) (i : CarIx) :
    (s.recompute i).halt = s.halt := by unfold State.recompute; (try dsimp only); (repeat' split) <;> first | (simp; done) | with_reducible rfl
@[simp] theorem recompute_link (s : State) (i : CarIx) :
    (s.recompute i).link = s.link := by unfold State.recompute; (try dsimp only); (repeat' split) <;> first | (simp; done) | with_reducible rfl
@[simp] theorem recompute_choices (s : State) (i : CarIx) :
    (s.recompute i).choices = s.choices := by unfold State.recompute; (try dsimp only); (repeat' split) <;> first | (simp; done) | with_reducible rfl
@[simp] theorem recompute_pending (s : State) (i : CarIx) :
    (s.recompute i).pending = s.pending := by unfold State.recompute; (try dsimp only); (repeat' split) <;> first | (simp; done) | with_reducible rfl
@[simp] theorem applyHeadCap_gates (s : State) (i : CarIx) (c : Nat) :
    (s.applyHeadCap i c).gates = s.gates := by unfold State.applyHeadCap; (try dsimp only); (repeat' split) <;> first | (simp; done) | with_reducible rfl
@[simp] theorem applyHeadCap_zones (s : State) (i : CarIx) (c : Nat) :
    (s.applyHeadCap i c).zones = s.zones := by unfold State.applyHeadCap; (try dsimp only); (repeat' split) <;> first | (simp; done) | with_reducible rfl
@[simp] theorem applyHeadCap_way (s : State) (i : CarIx) (c : Nat) :
    (s.applyHeadCap i c).way = s.way := by unfold State.applyHeadCap; (try dsimp only); (repeat' split) <;> first | (simp; done) | with_reducible rfl
@[simp] theorem applyHeadCap_asks (s : State) (i : CarIx) (c : Nat) :
    (s.applyHeadCap i c).asks = s.asks := by unfold State.applyHeadCap; (try dsimp only); (repeat' split) <;> first | (simp; done) | with_reducible rfl
@[simp] theorem applyHeadCap_admission (s : State) (i : CarIx) (c : Nat) :
    (s.applyHeadCap i c).admission = s.admission := by unfold State.applyHeadCap; (try dsimp only); (repeat' split) <;> first | (simp; done) | with_reducible rfl
@[simp] theorem applyHeadCap_halt (s : State) (i : CarIx) (c : Nat) :
    (s.applyHeadCap i c).halt = s.halt := by unfold State.applyHeadCap; (try dsimp only); (repeat' split) <;> first | (simp; done) | with_reducible rfl
@[simp] theorem applyHeadCap_link (s : State) (i : CarIx) (c : Nat) :
    (s.applyHeadCap i c).link = s.link := by unfold State.applyHeadCap; (try dsimp only); (repeat' split) <;> first | (simp; done) | with_reducible rfl
@[simp] theorem applyHeadCap_choices (s : State) (i : CarIx) (c : Nat) :
    (s.applyHeadCap i c).choices = s.choices := by unfold State.applyHeadCap; (try dsimp only); (repeat' split) <;> first | (simp; done) | with_reducible rfl
@[simp] theorem applyHeadCap_pending (s : State) (i : CarIx) (c : Nat) :
    (s.applyHeadCap i c).pending = s.pending := by unfold State.applyHeadCap; (try dsimp only); (repeat' split) <;> first | (simp; done) | with_reducible rfl
@[simp] theorem takeLimit_gates (s : State) (i : CarIx) (l : Nat) :
    (s.takeLimit i l).gates = s.gates := by unfold State.takeLimit; (try dsimp only); (repeat' split) <;> first | (simp; done) | with_reducible rfl
@[simp] theorem takeLimit_zones (s : State) (i : CarIx) (l : Nat) :
    (s.takeLimit i l).zones = s.zones := by unfold State.takeLimit; (try dsimp only); (repeat' split) <;> first | (simp; done) | with_reducible rfl
@[simp] theorem takeLimit_way (s : State) (i : CarIx) (l : Nat) :
    (s.takeLimit i l).way = s.way := by unfold State.takeLimit; (try dsimp only); (repeat' split) <;> first | (simp; done) | with_reducible rfl
@[simp] theorem takeLimit_asks (s : State) (i : CarIx) (l : Nat) :
    (s.takeLimit i l).asks = s.asks := by unfold State.takeLimit; (try dsimp only); (repeat' split) <;> first | (simp; done) | with_reducible rfl
@[simp] theorem takeLimit_admission (s : State) (i : CarIx) (l : Nat) :
    (s.takeLimit i l).admission = s.admission := by unfold State.takeLimit; (try dsimp only); (repeat' split) <;> first | (simp; done) | with_reducible rfl
@[simp] theorem takeLimit_halt (s : State) (i : CarIx) (l : Nat) :
    (s.takeLimit i l).halt = s.halt := by unfold State.takeLimit; (try dsimp only); (repeat' split) <;> first | (simp; done) | with_reducible rfl
@[simp] theorem takeLimit_choices (s : State) (i : CarIx) (l : Nat) :
    (s.takeLimit i l).choices = s.choices := by unfold State.takeLimit; (try dsimp only); (repeat' split) <;> first | (simp; done) | with_reducible rfl
@[simp] theorem takeLimit_pending (s : State) (i : CarIx) (l : Nat) :
    (s.takeLimit i l).pending = s.pending := by unfold State.takeLimit; (try dsimp only); (repeat' split) <;> first | (simp; done) | with_reducible rfl
@[simp] theorem evaluateGaps_gates (s : State) :
    (s.evaluateGaps).gates = s.gates := by unfold State.evaluateGaps; exact foldl_frame State.gates _ (fun s i => by split <;> simp) _ _
@[simp] theorem evaluateGaps_zones (s : State) :
    (s.evaluateGaps).zones = s.zones := by unfold State.evaluateGaps; exact foldl_frame State.zones _ (fun s i => by split <;> simp) _ _
@[simp] theorem evaluateGaps_way (s : State) :
    (s.evaluateGaps).way = s.way := by unfold State.evaluateGaps; exact foldl_frame State.way _ (fun s i => by split <;> simp) _ _
@[simp] theorem evaluateGaps_asks (s : State) :
    (s.evaluateGaps).asks = s.asks := by unfold State.evaluateGaps; exact foldl_frame State.asks _ (fun s i => by split <;> simp) _ _
@[simp] theorem evaluateGaps_admission (s : State) :
    (s.evaluateGaps).admission = s.admission := by unfold State.evaluateGaps; exact foldl_frame State.admission _ (fun s i => by split <;> simp) _ _
@[simp] theorem evaluateGaps_halt (s : State) :
    (s.evaluateGaps).halt = s.halt := by unfold State.evaluateGaps; exact foldl_frame State.halt _ (fun s i => by split <;> simp) _ _
@[simp] theorem evaluateGaps_choices (s : State) :
    (s.evaluateGaps).choices = s.choices := by unfold State.evaluateGaps; exact foldl_frame State.choices _ (fun s i => by split <;> simp) _ _
@[simp] theorem evaluateGaps_pending (s : State) :
    (s.evaluateGaps).pending = s.pending := by unfold State.evaluateGaps; exact foldl_frame State.pending _ (fun s i => by split <;> simp) _ _
@[simp] theorem openGate_zones (s : State) (g : Fin 8) :
    ((s.openGate g).1).zones = s.zones := by unfold State.openGate; (try dsimp only); (repeat' split) <;> first | (simp; done) | with_reducible rfl
@[simp] theorem openGate_way (s : State) (g : Fin 8) :
    ((s.openGate g).1).way = s.way := by unfold State.openGate; (try dsimp only); (repeat' split) <;> first | (simp; done) | with_reducible rfl
@[simp] theorem openGate_asks (s : State) (g : Fin 8) :
    ((s.openGate g).1).asks = s.asks := by unfold State.openGate; (try dsimp only); (repeat' split) <;> first | (simp; done) | with_reducible rfl
@[simp] theorem openGate_admission (s : State) (g : Fin 8) :
    ((s.openGate g).1).admission = s.admission := by unfold State.openGate; (try dsimp only); (repeat' split) <;> first | (simp; done) | with_reducible rfl
@[simp] theorem openGate_halt (s : State) (g : Fin 8) :
    ((s.openGate g).1).halt = s.halt := by unfold State.openGate; (try dsimp only); (repeat' split) <;> first | (simp; done) | with_reducible rfl
@[simp] theorem openGate_link (s : State) (g : Fin 8) :
    ((s.openGate g).1).link = s.link := by unfold State.openGate; (try dsimp only); (repeat' split) <;> first | (simp; done) | with_reducible rfl
@[simp] theorem openGate_choices (s : State) (g : Fin 8) :
    ((s.openGate g).1).choices = s.choices := by unfold State.openGate; (try dsimp only); (repeat' split) <;> first | (simp; done) | with_reducible rfl
@[simp] theorem openGate_pending (s : State) (g : Fin 8) :
    ((s.openGate g).1).pending = s.pending := by unfold State.openGate; (try dsimp only); (repeat' split) <;> first | (simp; done) | with_reducible rfl
@[simp] theorem sourceEvent_zones (s : State) (src : Source) :
    (s.sourceEvent src).zones = s.zones := by unfold State.sourceEvent; (try dsimp only); (repeat' split) <;> simp [foldl_frame State.zones]
@[simp] theorem sourceEvent_way (s : State) (src : Source) :
    (s.sourceEvent src).way = s.way := by unfold State.sourceEvent; (try dsimp only); (repeat' split) <;> simp [foldl_frame State.way]
@[simp] theorem sourceEvent_asks (s : State) (src : Source) :
    (s.sourceEvent src).asks = s.asks := by unfold State.sourceEvent; (try dsimp only); (repeat' split) <;> simp [foldl_frame State.asks]
@[simp] theorem sourceEvent_admission (s : State) (src : Source) :
    (s.sourceEvent src).admission = s.admission := by unfold State.sourceEvent; (try dsimp only); (repeat' split) <;> simp [foldl_frame State.admission]
@[simp] theorem sourceEvent_halt (s : State) (src : Source) :
    (s.sourceEvent src).halt = s.halt := by unfold State.sourceEvent; (try dsimp only); (repeat' split) <;> simp [foldl_frame State.halt]
@[simp] theorem sourceEvent_link (s : State) (src : Source) :
    (s.sourceEvent src).link = s.link := by unfold State.sourceEvent; (try dsimp only); (repeat' split) <;> simp [foldl_frame State.link]
@[simp] theorem sourceEvent_pending (s : State) (src : Source) :
    (s.sourceEvent src).pending = s.pending := by unfold State.sourceEvent; (try dsimp only); (repeat' split) <;> simp [foldl_frame State.pending]
@[simp] theorem evaluateZones_zones (s : State) (i : CarIx) :
    (s.evaluateZones i).zones = s.zones := by unfold State.evaluateZones; (try dsimp only); (repeat' split) <;> simp [foldl_frame State.zones]
@[simp] theorem evaluateZones_way (s : State) (i : CarIx) :
    (s.evaluateZones i).way = s.way := by unfold State.evaluateZones; (try dsimp only); (repeat' split) <;> simp [foldl_frame State.way]
@[simp] theorem evaluateZones_asks (s : State) (i : CarIx) :
    (s.evaluateZones i).asks = s.asks := by unfold State.evaluateZones; (try dsimp only); (repeat' split) <;> simp [foldl_frame State.asks]
@[simp] theorem evaluateZones_admission (s : State) (i : CarIx) :
    (s.evaluateZones i).admission = s.admission := by unfold State.evaluateZones; (try dsimp only); (repeat' split) <;> simp [foldl_frame State.admission]
@[simp] theorem evaluateZones_halt (s : State) (i : CarIx) :
    (s.evaluateZones i).halt = s.halt := by unfold State.evaluateZones; (try dsimp only); (repeat' split) <;> simp [foldl_frame State.halt]
@[simp] theorem evaluateZones_link (s : State) (i : CarIx) :
    (s.evaluateZones i).link = s.link := by unfold State.evaluateZones; (try dsimp only); (repeat' split) <;> simp [foldl_frame State.link]
@[simp] theorem evaluateZones_pending (s : State) (i : CarIx) :
    (s.evaluateZones i).pending = s.pending := by unfold State.evaluateZones; (try dsimp only); (repeat' split) <;> simp [foldl_frame State.pending]
@[simp] theorem setContext_cars (s : State) (X : LineId) (k : Fin 6) (c : Ctx) :
    (s.setContext X k c).cars = s.cars := by unfold State.setContext; (try dsimp only); (repeat' split) <;> first | (simp; done) | with_reducible rfl
@[simp] theorem setContext_queue (s : State) (X : LineId) (k : Fin 6) (c : Ctx) :
    (s.setContext X k c).queue = s.queue := by unfold State.setContext; (try dsimp only); (repeat' split) <;> first | (simp; done) | with_reducible rfl
@[simp] theorem setContext_gates (s : State) (X : LineId) (k : Fin 6) (c : Ctx) :
    (s.setContext X k c).gates = s.gates := by unfold State.setContext; (try dsimp only); (repeat' split) <;> first | (simp; done) | with_reducible rfl
@[simp] theorem setContext_zones (s : State) (X : LineId) (k : Fin 6) (c : Ctx) :
    (s.setContext X k c).zones = s.zones := by unfold State.setContext; (try dsimp only); (repeat' split) <;> first | (simp; done) | with_reducible rfl
@[simp] theorem setContext_way (s : State) (X : LineId) (k : Fin 6) (c : Ctx) :
    (s.setContext X k c).way = s.way := by unfold State.setContext; (try dsimp only); (repeat' split) <;> first | (simp; done) | with_reducible rfl
@[simp] theorem setContext_asks (s : State) (X : LineId) (k : Fin 6) (c : Ctx) :
    (s.setContext X k c).asks = s.asks := by unfold State.setContext; (try dsimp only); (repeat' split) <;> first | (simp; done) | with_reducible rfl
@[simp] theorem setContext_admission (s : State) (X : LineId) (k : Fin 6) (c : Ctx) :
    (s.setContext X k c).admission = s.admission := by unfold State.setContext; (try dsimp only); (repeat' split) <;> first | (simp; done) | with_reducible rfl
@[simp] theorem setContext_halt (s : State) (X : LineId) (k : Fin 6) (c : Ctx) :
    (s.setContext X k c).halt = s.halt := by unfold State.setContext; (try dsimp only); (repeat' split) <;> first | (simp; done) | with_reducible rfl
@[simp] theorem setContext_link (s : State) (X : LineId) (k : Fin 6) (c : Ctx) :
    (s.setContext X k c).link = s.link := by unfold State.setContext; (try dsimp only); (repeat' split) <;> first | (simp; done) | with_reducible rfl
@[simp] theorem setContext_choices (s : State) (X : LineId) (k : Fin 6) (c : Ctx) :
    (s.setContext X k c).choices = s.choices := by unfold State.setContext; (try dsimp only); (repeat' split) <;> first | (simp; done) | with_reducible rfl
@[simp] theorem setContext_pending (s : State) (X : LineId) (k : Fin 6) (c : Ctx) :
    (s.setContext X k c).pending = s.pending := by unfold State.setContext; (try dsimp only); (repeat' split) <;> first | (simp; done) | with_reducible rfl
@[simp] theorem park_lineA (s : State) (X : LineId) (k : Fin 6) :
    (s.park X k).lineA = s.lineA := by unfold State.park; (try dsimp only); (repeat' split) <;> first | (simp; done) | with_reducible rfl
@[simp] theorem park_lineB (s : State) (X : LineId) (k : Fin 6) :
    (s.park X k).lineB = s.lineB := by unfold State.park; (try dsimp only); (repeat' split) <;> first | (simp; done) | with_reducible rfl
@[simp] theorem park_queue (s : State) (X : LineId) (k : Fin 6) :
    (s.park X k).queue = s.queue := by unfold State.park; (try dsimp only); (repeat' split) <;> first | (simp; done) | with_reducible rfl
@[simp] theorem park_gates (s : State) (X : LineId) (k : Fin 6) :
    (s.park X k).gates = s.gates := by unfold State.park; (try dsimp only); (repeat' split) <;> first | (simp; done) | with_reducible rfl
@[simp] theorem park_zones (s : State) (X : LineId) (k : Fin 6) :
    (s.park X k).zones = s.zones := by unfold State.park; (try dsimp only); (repeat' split) <;> first | (simp; done) | with_reducible rfl
@[simp] theorem park_way (s : State) (X : LineId) (k : Fin 6) :
    (s.park X k).way = s.way := by unfold State.park; (try dsimp only); (repeat' split) <;> first | (simp; done) | with_reducible rfl
@[simp] theorem park_asks (s : State) (X : LineId) (k : Fin 6) :
    (s.park X k).asks = s.asks := by unfold State.park; (try dsimp only); (repeat' split) <;> first | (simp; done) | with_reducible rfl
@[simp] theorem park_admission (s : State) (X : LineId) (k : Fin 6) :
    (s.park X k).admission = s.admission := by unfold State.park; (try dsimp only); (repeat' split) <;> first | (simp; done) | with_reducible rfl
@[simp] theorem park_halt (s : State) (X : LineId) (k : Fin 6) :
    (s.park X k).halt = s.halt := by unfold State.park; (try dsimp only); (repeat' split) <;> first | (simp; done) | with_reducible rfl
@[simp] theorem park_link (s : State) (X : LineId) (k : Fin 6) :
    (s.park X k).link = s.link := by unfold State.park; (try dsimp only); (repeat' split) <;> first | (simp; done) | with_reducible rfl
@[simp] theorem park_choices (s : State) (X : LineId) (k : Fin 6) :
    (s.park X k).choices = s.choices := by unfold State.park; (try dsimp only); (repeat' split) <;> first | (simp; done) | with_reducible rfl
@[simp] theorem park_pending (s : State) (X : LineId) (k : Fin 6) :
    (s.park X k).pending = s.pending := by unfold State.park; (try dsimp only); (repeat' split) <;> first | (simp; done) | with_reducible rfl
@[simp] theorem parkAndFree_queue (s : State) (X : LineId) (k : Fin 6) :
    (s.parkAndFree X k).queue = s.queue := by unfold State.parkAndFree; (try dsimp only); (repeat' split) <;> first | (simp; done) | with_reducible rfl
@[simp] theorem parkAndFree_gates (s : State) (X : LineId) (k : Fin 6) :
    (s.parkAndFree X k).gates = s.gates := by unfold State.parkAndFree; (try dsimp only); (repeat' split) <;> first | (simp; done) | with_reducible rfl
@[simp] theorem parkAndFree_zones (s : State) (X : LineId) (k : Fin 6) :
    (s.parkAndFree X k).zones = s.zones := by unfold State.parkAndFree; (try dsimp only); (repeat' split) <;> first | (simp; done) | with_reducible rfl
@[simp] theorem parkAndFree_way (s : State) (X : LineId) (k : Fin 6) :
    (s.parkAndFree X k).way = s.way := by unfold State.parkAndFree; (try dsimp only); (repeat' split) <;> first | (simp; done) | with_reducible rfl
@[simp] theorem parkAndFree_asks (s : State) (X : LineId) (k : Fin 6) :
    (s.parkAndFree X k).asks = s.asks := by unfold State.parkAndFree; (try dsimp only); (repeat' split) <;> first | (simp; done) | with_reducible rfl
@[simp] theorem parkAndFree_admission (s : State) (X : LineId) (k : Fin 6) :
    (s.parkAndFree X k).admission = s.admission := by unfold State.parkAndFree; (try dsimp only); (repeat' split) <;> first | (simp; done) | with_reducible rfl
@[simp] theorem parkAndFree_halt (s : State) (X : LineId) (k : Fin 6) :
    (s.parkAndFree X k).halt = s.halt := by unfold State.parkAndFree; (try dsimp only); (repeat' split) <;> first | (simp; done) | with_reducible rfl
@[simp] theorem parkAndFree_link (s : State) (X : LineId) (k : Fin 6) :
    (s.parkAndFree X k).link = s.link := by unfold State.parkAndFree; (try dsimp only); (repeat' split) <;> first | (simp; done) | with_reducible rfl
@[simp] theorem parkAndFree_choices (s : State) (X : LineId) (k : Fin 6) :
    (s.parkAndFree X k).choices = s.choices := by unfold State.parkAndFree; (try dsimp only); (repeat' split) <;> first | (simp; done) | with_reducible rfl
@[simp] theorem parkAndFree_pending (s : State) (X : LineId) (k : Fin 6) :
    (s.parkAndFree X k).pending = s.pending := by unfold State.parkAndFree; (try dsimp only); (repeat' split) <;> first | (simp; done) | with_reducible rfl
@[simp] theorem releaseContext_queue (s : State) (X : LineId) (i : CarIx) :
    (s.releaseContext X i).queue = s.queue := by unfold State.releaseContext; (try dsimp only); (repeat' split) <;> first | (simp; done) | with_reducible rfl
@[simp] theorem releaseContext_gates (s : State) (X : LineId) (i : CarIx) :
    (s.releaseContext X i).gates = s.gates := by unfold State.releaseContext; (try dsimp only); (repeat' split) <;> first | (simp; done) | with_reducible rfl
@[simp] theorem releaseContext_zones (s : State) (X : LineId) (i : CarIx) :
    (s.releaseContext X i).zones = s.zones := by unfold State.releaseContext; (try dsimp only); (repeat' split) <;> first | (simp; done) | with_reducible rfl
@[simp] theorem releaseContext_way (s : State) (X : LineId) (i : CarIx) :
    (s.releaseContext X i).way = s.way := by unfold State.releaseContext; (try dsimp only); (repeat' split) <;> first | (simp; done) | with_reducible rfl
@[simp] theorem releaseContext_asks (s : State) (X : LineId) (i : CarIx) :
    (s.releaseContext X i).asks = s.asks := by unfold State.releaseContext; (try dsimp only); (repeat' split) <;> first | (simp; done) | with_reducible rfl
@[simp] theorem releaseContext_admission (s : State) (X : LineId) (i : CarIx) :
    (s.releaseContext X i).admission = s.admission := by unfold State.releaseContext; (try dsimp only); (repeat' split) <;> first | (simp; done) | with_reducible rfl
@[simp] theorem releaseContext_halt (s : State) (X : LineId) (i : CarIx) :
    (s.releaseContext X i).halt = s.halt := by unfold State.releaseContext; (try dsimp only); (repeat' split) <;> first | (simp; done) | with_reducible rfl
@[simp] theorem releaseContext_link (s : State) (X : LineId) (i : CarIx) :
    (s.releaseContext X i).link = s.link := by unfold State.releaseContext; (try dsimp only); (repeat' split) <;> first | (simp; done) | with_reducible rfl
@[simp] theorem releaseContext_choices (s : State) (X : LineId) (i : CarIx) :
    (s.releaseContext X i).choices = s.choices := by unfold State.releaseContext; (try dsimp only); (repeat' split) <;> first | (simp; done) | with_reducible rfl
@[simp] theorem releaseContext_pending (s : State) (X : LineId) (i : CarIx) :
    (s.releaseContext X i).pending = s.pending := by unfold State.releaseContext; (try dsimp only); (repeat' split) <;> first | (simp; done) | with_reducible rfl
@[simp] theorem forgetContexts_queue (s : State) (i : CarIx) :
    (s.forgetContexts i).queue = s.queue := by unfold State.forgetContexts; (try dsimp only); (repeat' split) <;> first | (simp; done) | with_reducible rfl
@[simp] theorem forgetContexts_gates (s : State) (i : CarIx) :
    (s.forgetContexts i).gates = s.gates := by unfold State.forgetContexts; (try dsimp only); (repeat' split) <;> first | (simp; done) | with_reducible rfl
@[simp] theorem forgetContexts_zones (s : State) (i : CarIx) :
    (s.forgetContexts i).zones = s.zones := by unfold State.forgetContexts; (try dsimp only); (repeat' split) <;> first | (simp; done) | with_reducible rfl
@[simp] theorem forgetContexts_way (s : State) (i : CarIx) :
    (s.forgetContexts i).way = s.way := by unfold State.forgetContexts; (try dsimp only); (repeat' split) <;> first | (simp; done) | with_reducible rfl
@[simp] theorem forgetContexts_asks (s : State) (i : CarIx) :
    (s.forgetContexts i).asks = s.asks := by unfold State.forgetContexts; (try dsimp only); (repeat' split) <;> first | (simp; done) | with_reducible rfl
@[simp] theorem forgetContexts_admission (s : State) (i : CarIx) :
    (s.forgetContexts i).admission = s.admission := by unfold State.forgetContexts; (try dsimp only); (repeat' split) <;> first | (simp; done) | with_reducible rfl
@[simp] theorem forgetContexts_halt (s : State) (i : CarIx) :
    (s.forgetContexts i).halt = s.halt := by unfold State.forgetContexts; (try dsimp only); (repeat' split) <;> first | (simp; done) | with_reducible rfl
@[simp] theorem forgetContexts_link (s : State) (i : CarIx) :
    (s.forgetContexts i).link = s.link := by unfold State.forgetContexts; (try dsimp only); (repeat' split) <;> first | (simp; done) | with_reducible rfl
@[simp] theorem forgetContexts_choices (s : State) (i : CarIx) :
    (s.forgetContexts i).choices = s.choices := by unfold State.forgetContexts; (try dsimp only); (repeat' split) <;> first | (simp; done) | with_reducible rfl
@[simp] theorem forgetContexts_pending (s : State) (i : CarIx) :
    (s.forgetContexts i).pending = s.pending := by unfold State.forgetContexts; (try dsimp only); (repeat' split) <;> first | (simp; done) | with_reducible rfl
@[simp] theorem freeAllContexts_queue (s : State) (X : LineId) :
    (s.freeAllContexts X).queue = s.queue := by unfold State.freeAllContexts; (try dsimp only); (repeat' split) <;> simp [foldl_frame State.queue]
@[simp] theorem freeAllContexts_gates (s : State) (X : LineId) :
    (s.freeAllContexts X).gates = s.gates := by unfold State.freeAllContexts; (try dsimp only); (repeat' split) <;> simp [foldl_frame State.gates]
@[simp] theorem freeAllContexts_zones (s : State) (X : LineId) :
    (s.freeAllContexts X).zones = s.zones := by unfold State.freeAllContexts; (try dsimp only); (repeat' split) <;> simp [foldl_frame State.zones]
@[simp] theorem freeAllContexts_way (s : State) (X : LineId) :
    (s.freeAllContexts X).way = s.way := by unfold State.freeAllContexts; (try dsimp only); (repeat' split) <;> simp [foldl_frame State.way]
@[simp] theorem freeAllContexts_asks (s : State) (X : LineId) :
    (s.freeAllContexts X).asks = s.asks := by unfold State.freeAllContexts; (try dsimp only); (repeat' split) <;> simp [foldl_frame State.asks]
@[simp] theorem freeAllContexts_admission (s : State) (X : LineId) :
    (s.freeAllContexts X).admission = s.admission := by unfold State.freeAllContexts; (try dsimp only); (repeat' split) <;> simp [foldl_frame State.admission]
@[simp] theorem freeAllContexts_halt (s : State) (X : LineId) :
    (s.freeAllContexts X).halt = s.halt := by unfold State.freeAllContexts; (try dsimp only); (repeat' split) <;> simp [foldl_frame State.halt]
@[simp] theorem freeAllContexts_link (s : State) (X : LineId) :
    (s.freeAllContexts X).link = s.link := by unfold State.freeAllContexts; (try dsimp only); (repeat' split) <;> simp [foldl_frame State.link]
@[simp] theorem freeAllContexts_choices (s : State) (X : LineId) :
    (s.freeAllContexts X).choices = s.choices := by unfold State.freeAllContexts; (try dsimp only); (repeat' split) <;> simp [foldl_frame State.choices]
@[simp] theorem freeAllContexts_pending (s : State) (X : LineId) :
    (s.freeAllContexts X).pending = s.pending := by unfold State.freeAllContexts; (try dsimp only); (repeat' split) <;> simp [foldl_frame State.pending]
@[simp] theorem obtainContext_queue (s : State) (X : LineId) (i : CarIx) (k : Fin 6) :
    (s.obtainContext X i k).queue = s.queue := by unfold State.obtainContext; (try dsimp only); (repeat' split) <;> first | (simp; done) | with_reducible rfl
@[simp] theorem obtainContext_gates (s : State) (X : LineId) (i : CarIx) (k : Fin 6) :
    (s.obtainContext X i k).gates = s.gates := by unfold State.obtainContext; (try dsimp only); (repeat' split) <;> first | (simp; done) | with_reducible rfl
@[simp] theorem obtainContext_zones (s : State) (X : LineId) (i : CarIx) (k : Fin 6) :
    (s.obtainContext X i k).zones = s.zones := by unfold State.obtainContext; (try dsimp only); (repeat' split) <;> first | (simp; done) | with_reducible rfl
@[simp] theorem obtainContext_way (s : State) (X : LineId) (i : CarIx) (k : Fin 6) :
    (s.obtainContext X i k).way = s.way := by unfold State.obtainContext; (try dsimp only); (repeat' split) <;> first | (simp; done) | with_reducible rfl
@[simp] theorem obtainContext_asks (s : State) (X : LineId) (i : CarIx) (k : Fin 6) :
    (s.obtainContext X i k).asks = s.asks := by unfold State.obtainContext; (try dsimp only); (repeat' split) <;> first | (simp; done) | with_reducible rfl
@[simp] theorem obtainContext_admission (s : State) (X : LineId) (i : CarIx) (k : Fin 6) :
    (s.obtainContext X i k).admission = s.admission := by unfold State.obtainContext; (try dsimp only); (repeat' split) <;> first | (simp; done) | with_reducible rfl
@[simp] theorem obtainContext_halt (s : State) (X : LineId) (i : CarIx) (k : Fin 6) :
    (s.obtainContext X i k).halt = s.halt := by unfold State.obtainContext; (try dsimp only); (repeat' split) <;> first | (simp; done) | with_reducible rfl
@[simp] theorem obtainContext_link (s : State) (X : LineId) (i : CarIx) (k : Fin 6) :
    (s.obtainContext X i k).link = s.link := by unfold State.obtainContext; (try dsimp only); (repeat' split) <;> first | (simp; done) | with_reducible rfl
@[simp] theorem obtainContext_choices (s : State) (X : LineId) (i : CarIx) (k : Fin 6) :
    (s.obtainContext X i k).choices = s.choices := by unfold State.obtainContext; (try dsimp only); (repeat' split) <;> first | (simp; done) | with_reducible rfl
@[simp] theorem obtainContext_pending (s : State) (X : LineId) (i : CarIx) (k : Fin 6) :
    (s.obtainContext X i k).pending = s.pending := by unfold State.obtainContext; (try dsimp only); (repeat' split) <;> first | (simp; done) | with_reducible rfl
@[simp] theorem modContextOf_cars (s : State) (X : LineId) (i : CarIx) (f : Ctx → Ctx) :
    (s.modContextOf X i f).cars = s.cars := by unfold State.modContextOf; (try dsimp only); (repeat' split) <;> first | (simp; done) | with_reducible rfl
@[simp] theorem modContextOf_queue (s : State) (X : LineId) (i : CarIx) (f : Ctx → Ctx) :
    (s.modContextOf X i f).queue = s.queue := by unfold State.modContextOf; (try dsimp only); (repeat' split) <;> first | (simp; done) | with_reducible rfl
@[simp] theorem modContextOf_gates (s : State) (X : LineId) (i : CarIx) (f : Ctx → Ctx) :
    (s.modContextOf X i f).gates = s.gates := by unfold State.modContextOf; (try dsimp only); (repeat' split) <;> first | (simp; done) | with_reducible rfl
@[simp] theorem modContextOf_zones (s : State) (X : LineId) (i : CarIx) (f : Ctx → Ctx) :
    (s.modContextOf X i f).zones = s.zones := by unfold State.modContextOf; (try dsimp only); (repeat' split) <;> first | (simp; done) | with_reducible rfl
@[simp] theorem modContextOf_way (s : State) (X : LineId) (i : CarIx) (f : Ctx → Ctx) :
    (s.modContextOf X i f).way = s.way := by unfold State.modContextOf; (try dsimp only); (repeat' split) <;> first | (simp; done) | with_reducible rfl
@[simp] theorem modContextOf_asks (s : State) (X : LineId) (i : CarIx) (f : Ctx → Ctx) :
    (s.modContextOf X i f).asks = s.asks := by unfold State.modContextOf; (try dsimp only); (repeat' split) <;> first | (simp; done) | with_reducible rfl
@[simp] theorem modContextOf_admission (s : State) (X : LineId) (i : CarIx) (f : Ctx → Ctx) :
    (s.modContextOf X i f).admission = s.admission := by unfold State.modContextOf; (try dsimp only); (repeat' split) <;> first | (simp; done) | with_reducible rfl
@[simp] theorem modContextOf_halt (s : State) (X : LineId) (i : CarIx) (f : Ctx → Ctx) :
    (s.modContextOf X i f).halt = s.halt := by unfold State.modContextOf; (try dsimp only); (repeat' split) <;> first | (simp; done) | with_reducible rfl
@[simp] theorem modContextOf_link (s : State) (X : LineId) (i : CarIx) (f : Ctx → Ctx) :
    (s.modContextOf X i f).link = s.link := by unfold State.modContextOf; (try dsimp only); (repeat' split) <;> first | (simp; done) | with_reducible rfl
@[simp] theorem modContextOf_choices (s : State) (X : LineId) (i : CarIx) (f : Ctx → Ctx) :
    (s.modContextOf X i f).choices = s.choices := by unfold State.modContextOf; (try dsimp only); (repeat' split) <;> first | (simp; done) | with_reducible rfl
@[simp] theorem modContextOf_pending (s : State) (X : LineId) (i : CarIx) (f : Ctx → Ctx) :
    (s.modContextOf X i f).pending = s.pending := by unfold State.modContextOf; (try dsimp only); (repeat' split) <;> first | (simp; done) | with_reducible rfl
@[simp] theorem growUncertainty_lineA (s : State) (X : LineId) :
    (s.growUncertainty X).lineA = s.lineA := by rfl
@[simp] theorem growUncertainty_lineB (s : State) (X : LineId) :
    (s.growUncertainty X).lineB = s.lineB := by rfl
@[simp] theorem growUncertainty_queue (s : State) (X : LineId) :
    (s.growUncertainty X).queue = s.queue := by rfl
@[simp] theorem growUncertainty_gates (s : State) (X : LineId) :
    (s.growUncertainty X).gates = s.gates := by rfl
@[simp] theorem growUncertainty_zones (s : State) (X : LineId) :
    (s.growUncertainty X).zones = s.zones := by rfl
@[simp] theorem growUncertainty_way (s : State) (X : LineId) :
    (s.growUncertainty X).way = s.way := by rfl
@[simp] theorem growUncertainty_asks (s : State) (X : LineId) :
    (s.growUncertainty X).asks = s.asks := by rfl
@[simp] theorem growUncertainty_admission (s : State) (X : LineId) :
    (s.growUncertainty X).admission = s.admission := by rfl
@[simp] theorem growUncertainty_halt (s : State) (X : LineId) :
    (s.growUncertainty X).halt = s.halt := by rfl
@[simp] theorem growUncertainty_link (s : State) (X : LineId) :
    (s.growUncertainty X).link = s.link := by rfl
@[simp] theorem growUncertainty_choices (s : State) (X : LineId) :
    (s.growUncertainty X).choices = s.choices := by rfl
@[simp] theorem growUncertainty_pending (s : State) (X : LineId) :
    (s.growUncertainty X).pending = s.pending := by rfl
@[simp] theorem markPoll_cars (s : State) (i : CarIx) (f : PollFate) :
    (s.markPoll i f).cars = s.cars := by unfold State.markPoll; (try dsimp only); (repeat' split) <;> first | (simp; done) | with_reducible rfl
@[simp] theorem markPoll_queue (s : State) (i : CarIx) (f : PollFate) :
    (s.markPoll i f).queue = s.queue := by unfold State.markPoll; (try dsimp only); (repeat' split) <;> first | (simp; done) | with_reducible rfl
@[simp] theorem markPoll_gates (s : State) (i : CarIx) (f : PollFate) :
    (s.markPoll i f).gates = s.gates := by unfold State.markPoll; (try dsimp only); (repeat' split) <;> first | (simp; done) | with_reducible rfl
@[simp] theorem markPoll_zones (s : State) (i : CarIx) (f : PollFate) :
    (s.markPoll i f).zones = s.zones := by unfold State.markPoll; (try dsimp only); (repeat' split) <;> first | (simp; done) | with_reducible rfl
@[simp] theorem markPoll_way (s : State) (i : CarIx) (f : PollFate) :
    (s.markPoll i f).way = s.way := by unfold State.markPoll; (try dsimp only); (repeat' split) <;> first | (simp; done) | with_reducible rfl
@[simp] theorem markPoll_asks (s : State) (i : CarIx) (f : PollFate) :
    (s.markPoll i f).asks = s.asks := by unfold State.markPoll; (try dsimp only); (repeat' split) <;> first | (simp; done) | with_reducible rfl
@[simp] theorem markPoll_admission (s : State) (i : CarIx) (f : PollFate) :
    (s.markPoll i f).admission = s.admission := by unfold State.markPoll; (try dsimp only); (repeat' split) <;> first | (simp; done) | with_reducible rfl
@[simp] theorem markPoll_halt (s : State) (i : CarIx) (f : PollFate) :
    (s.markPoll i f).halt = s.halt := by unfold State.markPoll; (try dsimp only); (repeat' split) <;> first | (simp; done) | with_reducible rfl
@[simp] theorem markPoll_link (s : State) (i : CarIx) (f : PollFate) :
    (s.markPoll i f).link = s.link := by unfold State.markPoll; (try dsimp only); (repeat' split) <;> first | (simp; done) | with_reducible rfl
@[simp] theorem markPoll_choices (s : State) (i : CarIx) (f : PollFate) :
    (s.markPoll i f).choices = s.choices := by unfold State.markPoll; (try dsimp only); (repeat' split) <;> first | (simp; done) | with_reducible rfl
@[simp] theorem markPoll_pending (s : State) (i : CarIx) (f : PollFate) :
    (s.markPoll i f).pending = s.pending := by unfold State.markPoll; (try dsimp only); (repeat' split) <;> first | (simp; done) | with_reducible rfl
@[simp] theorem removeCar_zones (s : State) (i : CarIx) (b : Bool) :
    (s.removeCar i b).zones = s.zones := by unfold State.removeCar; simp
@[simp] theorem removeCar_way (s : State) (i : CarIx) (b : Bool) :
    (s.removeCar i b).way = s.way := by unfold State.removeCar; simp
@[simp] theorem removeCar_asks (s : State) (i : CarIx) (b : Bool) :
    (s.removeCar i b).asks = s.asks := by unfold State.removeCar; simp
@[simp] theorem removeCar_admission (s : State) (i : CarIx) (b : Bool) :
    (s.removeCar i b).admission = s.admission := by unfold State.removeCar; simp
@[simp] theorem removeCar_halt (s : State) (i : CarIx) (b : Bool) :
    (s.removeCar i b).halt = s.halt := by unfold State.removeCar; simp
@[simp] theorem removeCar_choices (s : State) (i : CarIx) (b : Bool) :
    (s.removeCar i b).choices = s.choices := by unfold State.removeCar; simp
@[simp] theorem removeCar_pending (s : State) (i : CarIx) (b : Bool) :
    (s.removeCar i b).pending = s.pending := by unfold State.removeCar; simp
@[simp] theorem lapse_zones (s : State) (i : CarIx) :
    (s.lapse i).zones = s.zones := by unfold State.lapse; (try dsimp only); (repeat' split) <;> first | (simp; done) | with_reducible rfl
@[simp] theorem lapse_way (s : State) (i : CarIx) :
    (s.lapse i).way = s.way := by unfold State.lapse; (try dsimp only); (repeat' split) <;> first | (simp; done) | with_reducible rfl
@[simp] theorem lapse_asks (s : State) (i : CarIx) :
    (s.lapse i).asks = s.asks := by unfold State.lapse; (try dsimp only); (repeat' split) <;> first | (simp; done) | with_reducible rfl
@[simp] theorem lapse_admission (s : State) (i : CarIx) :
    (s.lapse i).admission = s.admission := by unfold State.lapse; (try dsimp only); (repeat' split) <;> first | (simp; done) | with_reducible rfl
@[simp] theorem lapse_halt (s : State) (i : CarIx) :
    (s.lapse i).halt = s.halt := by unfold State.lapse; (try dsimp only); (repeat' split) <;> first | (simp; done) | with_reducible rfl
@[simp] theorem lapse_choices (s : State) (i : CarIx) :
    (s.lapse i).choices = s.choices := by unfold State.lapse; (try dsimp only); (repeat' split) <;> first | (simp; done) | with_reducible rfl
@[simp] theorem lapse_pending (s : State) (i : CarIx) :
    (s.lapse i).pending = s.pending := by unfold State.lapse; (try dsimp only); (repeat' split) <;> first | (simp; done) | with_reducible rfl
@[simp] theorem leaveLine_cars (s : State) (i : CarIx) (X : LineId) :
    (s.leaveLine i X).cars = s.cars := by unfold State.leaveLine; (try dsimp only); (repeat' split) <;> first | (simp; done) | with_reducible rfl
@[simp] theorem leaveLine_gates (s : State) (i : CarIx) (X : LineId) :
    (s.leaveLine i X).gates = s.gates := by unfold State.leaveLine; (try dsimp only); (repeat' split) <;> first | (simp; done) | with_reducible rfl
@[simp] theorem leaveLine_zones (s : State) (i : CarIx) (X : LineId) :
    (s.leaveLine i X).zones = s.zones := by unfold State.leaveLine; (try dsimp only); (repeat' split) <;> first | (simp; done) | with_reducible rfl
@[simp] theorem leaveLine_way (s : State) (i : CarIx) (X : LineId) :
    (s.leaveLine i X).way = s.way := by unfold State.leaveLine; (try dsimp only); (repeat' split) <;> first | (simp; done) | with_reducible rfl
@[simp] theorem leaveLine_asks (s : State) (i : CarIx) (X : LineId) :
    (s.leaveLine i X).asks = s.asks := by unfold State.leaveLine; (try dsimp only); (repeat' split) <;> first | (simp; done) | with_reducible rfl
@[simp] theorem leaveLine_admission (s : State) (i : CarIx) (X : LineId) :
    (s.leaveLine i X).admission = s.admission := by unfold State.leaveLine; (try dsimp only); (repeat' split) <;> first | (simp; done) | with_reducible rfl
@[simp] theorem leaveLine_halt (s : State) (i : CarIx) (X : LineId) :
    (s.leaveLine i X).halt = s.halt := by unfold State.leaveLine; (try dsimp only); (repeat' split) <;> first | (simp; done) | with_reducible rfl
@[simp] theorem leaveLine_link (s : State) (i : CarIx) (X : LineId) :
    (s.leaveLine i X).link = s.link := by unfold State.leaveLine; (try dsimp only); (repeat' split) <;> first | (simp; done) | with_reducible rfl
@[simp] theorem leaveLine_choices (s : State) (i : CarIx) (X : LineId) :
    (s.leaveLine i X).choices = s.choices := by unfold State.leaveLine; (try dsimp only); (repeat' split) <;> first | (simp; done) | with_reducible rfl
@[simp] theorem leaveLine_pending (s : State) (i : CarIx) (X : LineId) :
    (s.leaveLine i X).pending = s.pending := by unfold State.leaveLine; (try dsimp only); (repeat' split) <;> first | (simp; done) | with_reducible rfl
@[simp] theorem homedOn_cars (s : State) (i : CarIx) (X : LineId) :
    (s.homedOn i X).cars = s.cars := by unfold State.homedOn; (try dsimp only); (repeat' split) <;> first | (simp; done) | with_reducible rfl
@[simp] theorem homedOn_queue (s : State) (i : CarIx) (X : LineId) :
    (s.homedOn i X).queue = s.queue := by unfold State.homedOn; (try dsimp only); (repeat' split) <;> first | (simp; done) | with_reducible rfl
@[simp] theorem homedOn_gates (s : State) (i : CarIx) (X : LineId) :
    (s.homedOn i X).gates = s.gates := by unfold State.homedOn; (try dsimp only); (repeat' split) <;> first | (simp; done) | with_reducible rfl
@[simp] theorem homedOn_zones (s : State) (i : CarIx) (X : LineId) :
    (s.homedOn i X).zones = s.zones := by unfold State.homedOn; (try dsimp only); (repeat' split) <;> first | (simp; done) | with_reducible rfl
@[simp] theorem homedOn_way (s : State) (i : CarIx) (X : LineId) :
    (s.homedOn i X).way = s.way := by unfold State.homedOn; (try dsimp only); (repeat' split) <;> first | (simp; done) | with_reducible rfl
@[simp] theorem homedOn_asks (s : State) (i : CarIx) (X : LineId) :
    (s.homedOn i X).asks = s.asks := by unfold State.homedOn; (try dsimp only); (repeat' split) <;> first | (simp; done) | with_reducible rfl
@[simp] theorem homedOn_admission (s : State) (i : CarIx) (X : LineId) :
    (s.homedOn i X).admission = s.admission := by unfold State.homedOn; (try dsimp only); (repeat' split) <;> first | (simp; done) | with_reducible rfl
@[simp] theorem homedOn_halt (s : State) (i : CarIx) (X : LineId) :
    (s.homedOn i X).halt = s.halt := by unfold State.homedOn; (try dsimp only); (repeat' split) <;> first | (simp; done) | with_reducible rfl
@[simp] theorem homedOn_link (s : State) (i : CarIx) (X : LineId) :
    (s.homedOn i X).link = s.link := by unfold State.homedOn; (try dsimp only); (repeat' split) <;> first | (simp; done) | with_reducible rfl
@[simp] theorem homedOn_choices (s : State) (i : CarIx) (X : LineId) :
    (s.homedOn i X).choices = s.choices := by unfold State.homedOn; (try dsimp only); (repeat' split) <;> first | (simp; done) | with_reducible rfl
@[simp] theorem homedOn_pending (s : State) (i : CarIx) (X : LineId) :
    (s.homedOn i X).pending = s.pending := by unfold State.homedOn; (try dsimp only); (repeat' split) <;> first | (simp; done) | with_reducible rfl
@[simp] theorem changeHome_gates (s : State) (i : CarIx) (h : Home) :
    (s.changeHome i h).gates = s.gates := by unfold State.changeHome; (try dsimp only); (repeat' split) <;> first | (simp; done) | with_reducible rfl
@[simp] theorem changeHome_zones (s : State) (i : CarIx) (h : Home) :
    (s.changeHome i h).zones = s.zones := by unfold State.changeHome; (try dsimp only); (repeat' split) <;> first | (simp; done) | with_reducible rfl
@[simp] theorem changeHome_way (s : State) (i : CarIx) (h : Home) :
    (s.changeHome i h).way = s.way := by unfold State.changeHome; (try dsimp only); (repeat' split) <;> first | (simp; done) | with_reducible rfl
@[simp] theorem changeHome_asks (s : State) (i : CarIx) (h : Home) :
    (s.changeHome i h).asks = s.asks := by unfold State.changeHome; (try dsimp only); (repeat' split) <;> first | (simp; done) | with_reducible rfl
@[simp] theorem changeHome_admission (s : State) (i : CarIx) (h : Home) :
    (s.changeHome i h).admission = s.admission := by unfold State.changeHome; (try dsimp only); (repeat' split) <;> first | (simp; done) | with_reducible rfl
@[simp] theorem changeHome_halt (s : State) (i : CarIx) (h : Home) :
    (s.changeHome i h).halt = s.halt := by unfold State.changeHome; (try dsimp only); (repeat' split) <;> first | (simp; done) | with_reducible rfl
@[simp] theorem changeHome_link (s : State) (i : CarIx) (h : Home) :
    (s.changeHome i h).link = s.link := by unfold State.changeHome; (try dsimp only); (repeat' split) <;> first | (simp; done) | with_reducible rfl
@[simp] theorem changeHome_choices (s : State) (i : CarIx) (h : Home) :
    (s.changeHome i h).choices = s.choices := by unfold State.changeHome; (try dsimp only); (repeat' split) <;> first | (simp; done) | with_reducible rfl
@[simp] theorem changeHome_pending (s : State) (i : CarIx) (h : Home) :
    (s.changeHome i h).pending = s.pending := by unfold State.changeHome; (try dsimp only); (repeat' split) <;> first | (simp; done) | with_reducible rfl
@[simp] theorem duePoll_lineA (s : State) (i : CarIx) :
    (s.duePoll i).lineA = s.lineA := by unfold State.duePoll; (try dsimp only); (repeat' split) <;> first | (simp; done) | with_reducible rfl
@[simp] theorem duePoll_lineB (s : State) (i : CarIx) :
    (s.duePoll i).lineB = s.lineB := by unfold State.duePoll; (try dsimp only); (repeat' split) <;> first | (simp; done) | with_reducible rfl
@[simp] theorem duePoll_gates (s : State) (i : CarIx) :
    (s.duePoll i).gates = s.gates := by unfold State.duePoll; (try dsimp only); (repeat' split) <;> first | (simp; done) | with_reducible rfl
@[simp] theorem duePoll_zones (s : State) (i : CarIx) :
    (s.duePoll i).zones = s.zones := by unfold State.duePoll; (try dsimp only); (repeat' split) <;> first | (simp; done) | with_reducible rfl
@[simp] theorem duePoll_way (s : State) (i : CarIx) :
    (s.duePoll i).way = s.way := by unfold State.duePoll; (try dsimp only); (repeat' split) <;> first | (simp; done) | with_reducible rfl
@[simp] theorem duePoll_asks (s : State) (i : CarIx) :
    (s.duePoll i).asks = s.asks := by unfold State.duePoll; (try dsimp only); (repeat' split) <;> first | (simp; done) | with_reducible rfl
@[simp] theorem duePoll_admission (s : State) (i : CarIx) :
    (s.duePoll i).admission = s.admission := by unfold State.duePoll; (try dsimp only); (repeat' split) <;> first | (simp; done) | with_reducible rfl
@[simp] theorem duePoll_halt (s : State) (i : CarIx) :
    (s.duePoll i).halt = s.halt := by unfold State.duePoll; (try dsimp only); (repeat' split) <;> first | (simp; done) | with_reducible rfl
@[simp] theorem duePoll_link (s : State) (i : CarIx) :
    (s.duePoll i).link = s.link := by unfold State.duePoll; (try dsimp only); (repeat' split) <;> first | (simp; done) | with_reducible rfl
@[simp] theorem duePoll_choices (s : State) (i : CarIx) :
    (s.duePoll i).choices = s.choices := by unfold State.duePoll; (try dsimp only); (repeat' split) <;> first | (simp; done) | with_reducible rfl
@[simp] theorem duePoll_pending (s : State) (i : CarIx) :
    (s.duePoll i).pending = s.pending := by unfold State.duePoll; (try dsimp only); (repeat' split) <;> first | (simp; done) | with_reducible rfl
@[simp] theorem generatePolls_lineA (s : State) (X : LineId) :
    (s.generatePolls X).lineA = s.lineA := by unfold State.generatePolls; (try dsimp only); (repeat' split) <;> simp [foldl_frame State.lineA]
@[simp] theorem generatePolls_lineB (s : State) (X : LineId) :
    (s.generatePolls X).lineB = s.lineB := by unfold State.generatePolls; (try dsimp only); (repeat' split) <;> simp [foldl_frame State.lineB]
@[simp] theorem generatePolls_gates (s : State) (X : LineId) :
    (s.generatePolls X).gates = s.gates := by unfold State.generatePolls; (try dsimp only); (repeat' split) <;> simp [foldl_frame State.gates]
@[simp] theorem generatePolls_zones (s : State) (X : LineId) :
    (s.generatePolls X).zones = s.zones := by unfold State.generatePolls; (try dsimp only); (repeat' split) <;> simp [foldl_frame State.zones]
@[simp] theorem generatePolls_way (s : State) (X : LineId) :
    (s.generatePolls X).way = s.way := by unfold State.generatePolls; (try dsimp only); (repeat' split) <;> simp [foldl_frame State.way]
@[simp] theorem generatePolls_asks (s : State) (X : LineId) :
    (s.generatePolls X).asks = s.asks := by unfold State.generatePolls; (try dsimp only); (repeat' split) <;> simp [foldl_frame State.asks]
@[simp] theorem generatePolls_admission (s : State) (X : LineId) :
    (s.generatePolls X).admission = s.admission := by unfold State.generatePolls; (try dsimp only); (repeat' split) <;> simp [foldl_frame State.admission]
@[simp] theorem generatePolls_halt (s : State) (X : LineId) :
    (s.generatePolls X).halt = s.halt := by unfold State.generatePolls; (try dsimp only); (repeat' split) <;> simp [foldl_frame State.halt]
@[simp] theorem generatePolls_link (s : State) (X : LineId) :
    (s.generatePolls X).link = s.link := by unfold State.generatePolls; (try dsimp only); (repeat' split) <;> simp [foldl_frame State.link]
@[simp] theorem generatePolls_pending (s : State) (X : LineId) :
    (s.generatePolls X).pending = s.pending := by unfold State.generatePolls; (try dsimp only); (repeat' split) <;> simp [foldl_frame State.pending]
@[simp] theorem countAsks_lineA (s : State) (X : LineId) :
    (s.countAsks X).lineA = s.lineA := by unfold State.countAsks; (try dsimp only); (repeat' split) <;> simp [foldl_frame State.lineA]
@[simp] theorem countAsks_lineB (s : State) (X : LineId) :
    (s.countAsks X).lineB = s.lineB := by unfold State.countAsks; (try dsimp only); (repeat' split) <;> simp [foldl_frame State.lineB]
@[simp] theorem countAsks_cars (s : State) (X : LineId) :
    (s.countAsks X).cars = s.cars := by unfold State.countAsks; (try dsimp only); (repeat' split) <;> simp [foldl_frame State.cars]
@[simp] theorem countAsks_queue (s : State) (X : LineId) :
    (s.countAsks X).queue = s.queue := by unfold State.countAsks; (try dsimp only); (repeat' split) <;> simp [foldl_frame State.queue]
@[simp] theorem countAsks_gates (s : State) (X : LineId) :
    (s.countAsks X).gates = s.gates := by unfold State.countAsks; (try dsimp only); (repeat' split) <;> simp [foldl_frame State.gates]
@[simp] theorem countAsks_zones (s : State) (X : LineId) :
    (s.countAsks X).zones = s.zones := by unfold State.countAsks; (try dsimp only); (repeat' split) <;> simp [foldl_frame State.zones]
@[simp] theorem countAsks_way (s : State) (X : LineId) :
    (s.countAsks X).way = s.way := by unfold State.countAsks; (try dsimp only); (repeat' split) <;> simp [foldl_frame State.way]
@[simp] theorem countAsks_admission (s : State) (X : LineId) :
    (s.countAsks X).admission = s.admission := by unfold State.countAsks; (try dsimp only); (repeat' split) <;> simp [foldl_frame State.admission]
@[simp] theorem countAsks_halt (s : State) (X : LineId) :
    (s.countAsks X).halt = s.halt := by unfold State.countAsks; (try dsimp only); (repeat' split) <;> simp [foldl_frame State.halt]
@[simp] theorem countAsks_choices (s : State) (X : LineId) :
    (s.countAsks X).choices = s.choices := by unfold State.countAsks; (try dsimp only); (repeat' split) <;> simp [foldl_frame State.choices]
@[simp] theorem countAsks_pending (s : State) (X : LineId) :
    (s.countAsks X).pending = s.pending := by unfold State.countAsks; (try dsimp only); (repeat' split) <;> simp [foldl_frame State.pending]
@[simp] theorem takeMiss_zones (s : State) (X : LineId) (i : CarIx) (r : MissReason) :
    (s.takeMiss X i r).zones = s.zones := by unfold State.takeMiss; (try dsimp only); (repeat' split) <;> first | (simp; done) | with_reducible rfl
@[simp] theorem takeMiss_way (s : State) (X : LineId) (i : CarIx) (r : MissReason) :
    (s.takeMiss X i r).way = s.way := by unfold State.takeMiss; (try dsimp only); (repeat' split) <;> first | (simp; done) | with_reducible rfl
@[simp] theorem takeMiss_asks (s : State) (X : LineId) (i : CarIx) (r : MissReason) :
    (s.takeMiss X i r).asks = s.asks := by unfold State.takeMiss; (try dsimp only); (repeat' split) <;> first | (simp; done) | with_reducible rfl
@[simp] theorem takeMiss_admission (s : State) (X : LineId) (i : CarIx) (r : MissReason) :
    (s.takeMiss X i r).admission = s.admission := by unfold State.takeMiss; (try dsimp only); (repeat' split) <;> first | (simp; done) | with_reducible rfl
@[simp] theorem takeMiss_halt (s : State) (X : LineId) (i : CarIx) (r : MissReason) :
    (s.takeMiss X i r).halt = s.halt := by unfold State.takeMiss; (try dsimp only); (repeat' split) <;> first | (simp; done) | with_reducible rfl
@[simp] theorem takeMiss_choices (s : State) (X : LineId) (i : CarIx) (r : MissReason) :
    (s.takeMiss X i r).choices = s.choices := by unfold State.takeMiss; (try dsimp only); (repeat' split) <;> first | (simp; done) | with_reducible rfl
@[simp] theorem takeMiss_pending (s : State) (X : LineId) (i : CarIx) (r : MissReason) :
    (s.takeMiss X i r).pending = s.pending := by unfold State.takeMiss; (try dsimp only); (repeat' split) <;> first | (simp; done) | with_reducible rfl
@[simp] theorem lineDown_zones (s : State) (X : LineId) (i : CarIx) :
    (s.lineDown X i).zones = s.zones := by unfold State.lineDown; (try dsimp only); (repeat' split) <;> first | (simp; done) | with_reducible rfl
@[simp] theorem lineDown_way (s : State) (X : LineId) (i : CarIx) :
    (s.lineDown X i).way = s.way := by unfold State.lineDown; (try dsimp only); (repeat' split) <;> first | (simp; done) | with_reducible rfl
@[simp] theorem lineDown_asks (s : State) (X : LineId) (i : CarIx) :
    (s.lineDown X i).asks = s.asks := by unfold State.lineDown; (try dsimp only); (repeat' split) <;> first | (simp; done) | with_reducible rfl
@[simp] theorem lineDown_admission (s : State) (X : LineId) (i : CarIx) :
    (s.lineDown X i).admission = s.admission := by unfold State.lineDown; (try dsimp only); (repeat' split) <;> first | (simp; done) | with_reducible rfl
@[simp] theorem lineDown_halt (s : State) (X : LineId) (i : CarIx) :
    (s.lineDown X i).halt = s.halt := by unfold State.lineDown; (try dsimp only); (repeat' split) <;> first | (simp; done) | with_reducible rfl
@[simp] theorem lineDown_choices (s : State) (X : LineId) (i : CarIx) :
    (s.lineDown X i).choices = s.choices := by unfold State.lineDown; (try dsimp only); (repeat' split) <;> first | (simp; done) | with_reducible rfl
@[simp] theorem lineDown_pending (s : State) (X : LineId) (i : CarIx) :
    (s.lineDown X i).pending = s.pending := by unfold State.lineDown; (try dsimp only); (repeat' split) <;> first | (simp; done) | with_reducible rfl
@[simp] theorem fillSlot_gates (s : State) (i : CarIx) (u : Nat) (X : LineId) :
    (s.fillSlot i u X).gates = s.gates := by unfold State.fillSlot; (try dsimp only); (repeat' split) <;> first | (simp; done) | with_reducible rfl
@[simp] theorem fillSlot_zones (s : State) (i : CarIx) (u : Nat) (X : LineId) :
    (s.fillSlot i u X).zones = s.zones := by unfold State.fillSlot; (try dsimp only); (repeat' split) <;> first | (simp; done) | with_reducible rfl
@[simp] theorem fillSlot_way (s : State) (i : CarIx) (u : Nat) (X : LineId) :
    (s.fillSlot i u X).way = s.way := by unfold State.fillSlot; (try dsimp only); (repeat' split) <;> first | (simp; done) | with_reducible rfl
@[simp] theorem fillSlot_asks (s : State) (i : CarIx) (u : Nat) (X : LineId) :
    (s.fillSlot i u X).asks = s.asks := by unfold State.fillSlot; (try dsimp only); (repeat' split) <;> first | (simp; done) | with_reducible rfl
@[simp] theorem fillSlot_admission (s : State) (i : CarIx) (u : Nat) (X : LineId) :
    (s.fillSlot i u X).admission = s.admission := by unfold State.fillSlot; (try dsimp only); (repeat' split) <;> first | (simp; done) | with_reducible rfl
@[simp] theorem fillSlot_halt (s : State) (i : CarIx) (u : Nat) (X : LineId) :
    (s.fillSlot i u X).halt = s.halt := by unfold State.fillSlot; (try dsimp only); (repeat' split) <;> first | (simp; done) | with_reducible rfl
@[simp] theorem fillSlot_link (s : State) (i : CarIx) (u : Nat) (X : LineId) :
    (s.fillSlot i u X).link = s.link := by unfold State.fillSlot; (try dsimp only); (repeat' split) <;> first | (simp; done) | with_reducible rfl
@[simp] theorem fillSlot_choices (s : State) (i : CarIx) (u : Nat) (X : LineId) :
    (s.fillSlot i u X).choices = s.choices := by unfold State.fillSlot; (try dsimp only); (repeat' split) <;> first | (simp; done) | with_reducible rfl
@[simp] theorem fillSlot_pending (s : State) (i : CarIx) (u : Nat) (X : LineId) :
    (s.fillSlot i u X).pending = s.pending := by unfold State.fillSlot; (try dsimp only); (repeat' split) <;> first | (simp; done) | with_reducible rfl
@[simp] theorem admitUnit_gates (s : State) (u : Nat) (X : LineId) :
    ((s.admitUnit u X).1).gates = s.gates := by unfold State.admitUnit; (try dsimp only); (repeat' split) <;> first | (simp; done) | with_reducible rfl
@[simp] theorem admitUnit_zones (s : State) (u : Nat) (X : LineId) :
    ((s.admitUnit u X).1).zones = s.zones := by unfold State.admitUnit; (try dsimp only); (repeat' split) <;> first | (simp; done) | with_reducible rfl
@[simp] theorem admitUnit_way (s : State) (u : Nat) (X : LineId) :
    ((s.admitUnit u X).1).way = s.way := by unfold State.admitUnit; (try dsimp only); (repeat' split) <;> first | (simp; done) | with_reducible rfl
@[simp] theorem admitUnit_admission (s : State) (u : Nat) (X : LineId) :
    ((s.admitUnit u X).1).admission = s.admission := by unfold State.admitUnit; (try dsimp only); (repeat' split) <;> first | (simp; done) | with_reducible rfl
@[simp] theorem admitUnit_halt (s : State) (u : Nat) (X : LineId) :
    ((s.admitUnit u X).1).halt = s.halt := by unfold State.admitUnit; (try dsimp only); (repeat' split) <;> first | (simp; done) | with_reducible rfl
@[simp] theorem admitUnit_choices (s : State) (u : Nat) (X : LineId) :
    ((s.admitUnit u X).1).choices = s.choices := by unfold State.admitUnit; (try dsimp only); (repeat' split) <;> first | (simp; done) | with_reducible rfl
@[simp] theorem admitUnit_pending (s : State) (u : Nat) (X : LineId) :
    ((s.admitUnit u X).1).pending = s.pending := by unfold State.admitUnit; (try dsimp only); (repeat' split) <;> first | (simp; done) | with_reducible rfl
@[simp] theorem readmit_gates (s : State) (i : CarIx) (X : LineId) :
    (s.readmit i X).gates = s.gates := by unfold State.readmit; (try dsimp only); (repeat' split) <;> first | (simp; done) | with_reducible rfl
@[simp] theorem readmit_zones (s : State) (i : CarIx) (X : LineId) :
    (s.readmit i X).zones = s.zones := by unfold State.readmit; (try dsimp only); (repeat' split) <;> first | (simp; done) | with_reducible rfl
@[simp] theorem readmit_way (s : State) (i : CarIx) (X : LineId) :
    (s.readmit i X).way = s.way := by unfold State.readmit; (try dsimp only); (repeat' split) <;> first | (simp; done) | with_reducible rfl
@[simp] theorem readmit_asks (s : State) (i : CarIx) (X : LineId) :
    (s.readmit i X).asks = s.asks := by unfold State.readmit; (try dsimp only); (repeat' split) <;> first | (simp; done) | with_reducible rfl
@[simp] theorem readmit_admission (s : State) (i : CarIx) (X : LineId) :
    (s.readmit i X).admission = s.admission := by unfold State.readmit; (try dsimp only); (repeat' split) <;> first | (simp; done) | with_reducible rfl
@[simp] theorem readmit_halt (s : State) (i : CarIx) (X : LineId) :
    (s.readmit i X).halt = s.halt := by unfold State.readmit; (try dsimp only); (repeat' split) <;> first | (simp; done) | with_reducible rfl
@[simp] theorem readmit_link (s : State) (i : CarIx) (X : LineId) :
    (s.readmit i X).link = s.link := by unfold State.readmit; (try dsimp only); (repeat' split) <;> first | (simp; done) | with_reducible rfl
@[simp] theorem readmit_choices (s : State) (i : CarIx) (X : LineId) :
    (s.readmit i X).choices = s.choices := by unfold State.readmit; (try dsimp only); (repeat' split) <;> first | (simp; done) | with_reducible rfl
@[simp] theorem readmit_pending (s : State) (i : CarIx) (X : LineId) :
    (s.readmit i X).pending = s.pending := by unfold State.readmit; (try dsimp only); (repeat' split) <;> first | (simp; done) | with_reducible rfl
@[simp] theorem takeJoin_gates (s : State) (u : Nat) (X : LineId) :
    (s.takeJoin u X).gates = s.gates := by unfold State.takeJoin; (try dsimp only); (repeat' split) <;> first | (simp; done) | with_reducible rfl
@[simp] theorem takeJoin_zones (s : State) (u : Nat) (X : LineId) :
    (s.takeJoin u X).zones = s.zones := by unfold State.takeJoin; (try dsimp only); (repeat' split) <;> first | (simp; done) | with_reducible rfl
@[simp] theorem takeJoin_way (s : State) (u : Nat) (X : LineId) :
    (s.takeJoin u X).way = s.way := by unfold State.takeJoin; (try dsimp only); (repeat' split) <;> first | (simp; done) | with_reducible rfl
@[simp] theorem takeJoin_admission (s : State) (u : Nat) (X : LineId) :
    (s.takeJoin u X).admission = s.admission := by unfold State.takeJoin; (try dsimp only); (repeat' split) <;> first | (simp; done) | with_reducible rfl
@[simp] theorem takeJoin_halt (s : State) (u : Nat) (X : LineId) :
    (s.takeJoin u X).halt = s.halt := by unfold State.takeJoin; (try dsimp only); (repeat' split) <;> first | (simp; done) | with_reducible rfl
@[simp] theorem takeJoin_choices (s : State) (u : Nat) (X : LineId) :
    (s.takeJoin u X).choices = s.choices := by unfold State.takeJoin; (try dsimp only); (repeat' split) <;> first | (simp; done) | with_reducible rfl
@[simp] theorem takeJoin_pending (s : State) (u : Nat) (X : LineId) :
    (s.takeJoin u X).pending = s.pending := by unfold State.takeJoin; (try dsimp only); (repeat' split) <;> first | (simp; done) | with_reducible rfl
@[simp] theorem hearJoin_gates (s : State) (u : Nat) (X : LineId) :
    (s.hearJoin u X).gates = s.gates := by unfold State.hearJoin; (try dsimp only); (repeat' split) <;> first | (simp; done) | with_reducible rfl
@[simp] theorem hearJoin_zones (s : State) (u : Nat) (X : LineId) :
    (s.hearJoin u X).zones = s.zones := by unfold State.hearJoin; (try dsimp only); (repeat' split) <;> first | (simp; done) | with_reducible rfl
@[simp] theorem hearJoin_way (s : State) (u : Nat) (X : LineId) :
    (s.hearJoin u X).way = s.way := by unfold State.hearJoin; (try dsimp only); (repeat' split) <;> first | (simp; done) | with_reducible rfl
@[simp] theorem hearJoin_admission (s : State) (u : Nat) (X : LineId) :
    (s.hearJoin u X).admission = s.admission := by unfold State.hearJoin; (try dsimp only); (repeat' split) <;> first | (simp; done) | with_reducible rfl
@[simp] theorem hearJoin_halt (s : State) (u : Nat) (X : LineId) :
    (s.hearJoin u X).halt = s.halt := by unfold State.hearJoin; (try dsimp only); (repeat' split) <;> first | (simp; done) | with_reducible rfl
@[simp] theorem hearJoin_choices (s : State) (u : Nat) (X : LineId) :
    (s.hearJoin u X).choices = s.choices := by unfold State.hearJoin; (try dsimp only); (repeat' split) <;> first | (simp; done) | with_reducible rfl
@[simp] theorem hearJoin_pending (s : State) (u : Nat) (X : LineId) :
    (s.hearJoin u X).pending = s.pending := by unfold State.hearJoin; (try dsimp only); (repeat' split) <;> first | (simp; done) | with_reducible rfl
@[simp] theorem takeReport_lineA (s : State) (X : LineId) (i : CarIx) (r : Reply) :
    (s.takeReport X i r).lineA = s.lineA := by unfold State.takeReport; (try dsimp only); (repeat' split) <;> first | (simp; done) | with_reducible rfl
@[simp] theorem takeReport_lineB (s : State) (X : LineId) (i : CarIx) (r : Reply) :
    (s.takeReport X i r).lineB = s.lineB := by unfold State.takeReport; (try dsimp only); (repeat' split) <;> first | (simp; done) | with_reducible rfl
@[simp] theorem takeReport_queue (s : State) (X : LineId) (i : CarIx) (r : Reply) :
    (s.takeReport X i r).queue = s.queue := by unfold State.takeReport; (try dsimp only); (repeat' split) <;> first | (simp; done) | with_reducible rfl
@[simp] theorem takeReport_gates (s : State) (X : LineId) (i : CarIx) (r : Reply) :
    (s.takeReport X i r).gates = s.gates := by unfold State.takeReport; (try dsimp only); (repeat' split) <;> first | (simp; done) | with_reducible rfl
@[simp] theorem takeReport_zones (s : State) (X : LineId) (i : CarIx) (r : Reply) :
    (s.takeReport X i r).zones = s.zones := by unfold State.takeReport; (try dsimp only); (repeat' split) <;> first | (simp; done) | with_reducible rfl
@[simp] theorem takeReport_way (s : State) (X : LineId) (i : CarIx) (r : Reply) :
    (s.takeReport X i r).way = s.way := by unfold State.takeReport; (try dsimp only); (repeat' split) <;> first | (simp; done) | with_reducible rfl
@[simp] theorem takeReport_asks (s : State) (X : LineId) (i : CarIx) (r : Reply) :
    (s.takeReport X i r).asks = s.asks := by unfold State.takeReport; (try dsimp only); (repeat' split) <;> first | (simp; done) | with_reducible rfl
@[simp] theorem takeReport_admission (s : State) (X : LineId) (i : CarIx) (r : Reply) :
    (s.takeReport X i r).admission = s.admission := by unfold State.takeReport; (try dsimp only); (repeat' split) <;> first | (simp; done) | with_reducible rfl
@[simp] theorem takeReport_halt (s : State) (X : LineId) (i : CarIx) (r : Reply) :
    (s.takeReport X i r).halt = s.halt := by unfold State.takeReport; (try dsimp only); (repeat' split) <;> first | (simp; done) | with_reducible rfl
@[simp] theorem takeReport_choices (s : State) (X : LineId) (i : CarIx) (r : Reply) :
    (s.takeReport X i r).choices = s.choices := by unfold State.takeReport; (try dsimp only); (repeat' split) <;> first | (simp; done) | with_reducible rfl
@[simp] theorem takeReport_pending (s : State) (X : LineId) (i : CarIx) (r : Reply) :
    (s.takeReport X i r).pending = s.pending := by unfold State.takeReport; (try dsimp only); (repeat' split) <;> first | (simp; done) | with_reducible rfl
@[simp] theorem locate_lineA (s : State) (X : LineId) (i : CarIx) (m : Nat) (b : Bool) :
    (s.locate X i m b).lineA = s.lineA := by unfold State.locate; (try dsimp only); (repeat' split) <;> first | (simp; done) | with_reducible rfl
@[simp] theorem locate_lineB (s : State) (X : LineId) (i : CarIx) (m : Nat) (b : Bool) :
    (s.locate X i m b).lineB = s.lineB := by unfold State.locate; (try dsimp only); (repeat' split) <;> first | (simp; done) | with_reducible rfl
@[simp] theorem locate_queue (s : State) (X : LineId) (i : CarIx) (m : Nat) (b : Bool) :
    (s.locate X i m b).queue = s.queue := by unfold State.locate; (try dsimp only); (repeat' split) <;> first | (simp; done) | with_reducible rfl
@[simp] theorem locate_gates (s : State) (X : LineId) (i : CarIx) (m : Nat) (b : Bool) :
    (s.locate X i m b).gates = s.gates := by unfold State.locate; (try dsimp only); (repeat' split) <;> first | (simp; done) | with_reducible rfl
@[simp] theorem locate_zones (s : State) (X : LineId) (i : CarIx) (m : Nat) (b : Bool) :
    (s.locate X i m b).zones = s.zones := by unfold State.locate; (try dsimp only); (repeat' split) <;> first | (simp; done) | with_reducible rfl
@[simp] theorem locate_way (s : State) (X : LineId) (i : CarIx) (m : Nat) (b : Bool) :
    (s.locate X i m b).way = s.way := by unfold State.locate; (try dsimp only); (repeat' split) <;> first | (simp; done) | with_reducible rfl
@[simp] theorem locate_asks (s : State) (X : LineId) (i : CarIx) (m : Nat) (b : Bool) :
    (s.locate X i m b).asks = s.asks := by unfold State.locate; (try dsimp only); (repeat' split) <;> first | (simp; done) | with_reducible rfl
@[simp] theorem locate_admission (s : State) (X : LineId) (i : CarIx) (m : Nat) (b : Bool) :
    (s.locate X i m b).admission = s.admission := by unfold State.locate; (try dsimp only); (repeat' split) <;> first | (simp; done) | with_reducible rfl
@[simp] theorem locate_halt (s : State) (X : LineId) (i : CarIx) (m : Nat) (b : Bool) :
    (s.locate X i m b).halt = s.halt := by unfold State.locate; (try dsimp only); (repeat' split) <;> first | (simp; done) | with_reducible rfl
@[simp] theorem locate_link (s : State) (X : LineId) (i : CarIx) (m : Nat) (b : Bool) :
    (s.locate X i m b).link = s.link := by unfold State.locate; (try dsimp only); (repeat' split) <;> first | (simp; done) | with_reducible rfl
@[simp] theorem locate_choices (s : State) (X : LineId) (i : CarIx) (m : Nat) (b : Bool) :
    (s.locate X i m b).choices = s.choices := by unfold State.locate; (try dsimp only); (repeat' split) <;> first | (simp; done) | with_reducible rfl
@[simp] theorem locate_pending (s : State) (X : LineId) (i : CarIx) (m : Nat) (b : Bool) :
    (s.locate X i m b).pending = s.pending := by unfold State.locate; (try dsimp only); (repeat' split) <;> first | (simp; done) | with_reducible rfl
@[simp] theorem rehome_gates (s : State) (i : CarIx) :
    (s.rehome i).gates = s.gates := by unfold State.rehome; (try dsimp only); (repeat' split) <;> first | (simp; done) | with_reducible rfl
@[simp] theorem rehome_zones (s : State) (i : CarIx) :
    (s.rehome i).zones = s.zones := by unfold State.rehome; (try dsimp only); (repeat' split) <;> first | (simp; done) | with_reducible rfl
@[simp] theorem rehome_way (s : State) (i : CarIx) :
    (s.rehome i).way = s.way := by unfold State.rehome; (try dsimp only); (repeat' split) <;> first | (simp; done) | with_reducible rfl
@[simp] theorem rehome_asks (s : State) (i : CarIx) :
    (s.rehome i).asks = s.asks := by unfold State.rehome; (try dsimp only); (repeat' split) <;> first | (simp; done) | with_reducible rfl
@[simp] theorem rehome_admission (s : State) (i : CarIx) :
    (s.rehome i).admission = s.admission := by unfold State.rehome; (try dsimp only); (repeat' split) <;> first | (simp; done) | with_reducible rfl
@[simp] theorem rehome_halt (s : State) (i : CarIx) :
    (s.rehome i).halt = s.halt := by unfold State.rehome; (try dsimp only); (repeat' split) <;> first | (simp; done) | with_reducible rfl
@[simp] theorem rehome_link (s : State) (i : CarIx) :
    (s.rehome i).link = s.link := by unfold State.rehome; (try dsimp only); (repeat' split) <;> first | (simp; done) | with_reducible rfl
@[simp] theorem rehome_choices (s : State) (i : CarIx) :
    (s.rehome i).choices = s.choices := by unfold State.rehome; (try dsimp only); (repeat' split) <;> first | (simp; done) | with_reducible rfl
@[simp] theorem rehome_pending (s : State) (i : CarIx) :
    (s.rehome i).pending = s.pending := by unfold State.rehome; (try dsimp only); (repeat' split) <;> first | (simp; done) | with_reducible rfl
@[simp] theorem confirmDrive_gates (s : State) (i : CarIx) (e : Nat) :
    (s.confirmDrive i e).gates = s.gates := by unfold State.confirmDrive; (try dsimp only); (repeat' split) <;> first | (simp; done) | with_reducible rfl
@[simp] theorem confirmDrive_zones (s : State) (i : CarIx) (e : Nat) :
    (s.confirmDrive i e).zones = s.zones := by unfold State.confirmDrive; (try dsimp only); (repeat' split) <;> first | (simp; done) | with_reducible rfl
@[simp] theorem confirmDrive_way (s : State) (i : CarIx) (e : Nat) :
    (s.confirmDrive i e).way = s.way := by unfold State.confirmDrive; (try dsimp only); (repeat' split) <;> first | (simp; done) | with_reducible rfl
@[simp] theorem confirmDrive_asks (s : State) (i : CarIx) (e : Nat) :
    (s.confirmDrive i e).asks = s.asks := by unfold State.confirmDrive; (try dsimp only); (repeat' split) <;> first | (simp; done) | with_reducible rfl
@[simp] theorem confirmDrive_admission (s : State) (i : CarIx) (e : Nat) :
    (s.confirmDrive i e).admission = s.admission := by unfold State.confirmDrive; (try dsimp only); (repeat' split) <;> first | (simp; done) | with_reducible rfl
@[simp] theorem confirmDrive_halt (s : State) (i : CarIx) (e : Nat) :
    (s.confirmDrive i e).halt = s.halt := by unfold State.confirmDrive; (try dsimp only); (repeat' split) <;> first | (simp; done) | with_reducible rfl
@[simp] theorem confirmDrive_link (s : State) (i : CarIx) (e : Nat) :
    (s.confirmDrive i e).link = s.link := by unfold State.confirmDrive; (try dsimp only); (repeat' split) <;> first | (simp; done) | with_reducible rfl
@[simp] theorem confirmDrive_choices (s : State) (i : CarIx) (e : Nat) :
    (s.confirmDrive i e).choices = s.choices := by unfold State.confirmDrive; (try dsimp only); (repeat' split) <;> first | (simp; done) | with_reducible rfl
@[simp] theorem confirmDrive_pending (s : State) (i : CarIx) (e : Nat) :
    (s.confirmDrive i e).pending = s.pending := by unfold State.confirmDrive; (try dsimp only); (repeat' split) <;> first | (simp; done) | with_reducible rfl
@[simp] theorem acknowledge_gates (s : State) (i : CarIx) (r : Reply) :
    (s.acknowledge i r).gates = s.gates := by unfold State.acknowledge; (try dsimp only); (repeat' split) <;> first | (simp; done) | with_reducible rfl
@[simp] theorem acknowledge_zones (s : State) (i : CarIx) (r : Reply) :
    (s.acknowledge i r).zones = s.zones := by unfold State.acknowledge; (try dsimp only); (repeat' split) <;> first | (simp; done) | with_reducible rfl
@[simp] theorem acknowledge_way (s : State) (i : CarIx) (r : Reply) :
    (s.acknowledge i r).way = s.way := by unfold State.acknowledge; (try dsimp only); (repeat' split) <;> first | (simp; done) | with_reducible rfl
@[simp] theorem acknowledge_asks (s : State) (i : CarIx) (r : Reply) :
    (s.acknowledge i r).asks = s.asks := by unfold State.acknowledge; (try dsimp only); (repeat' split) <;> first | (simp; done) | with_reducible rfl
@[simp] theorem acknowledge_admission (s : State) (i : CarIx) (r : Reply) :
    (s.acknowledge i r).admission = s.admission := by unfold State.acknowledge; (try dsimp only); (repeat' split) <;> first | (simp; done) | with_reducible rfl
@[simp] theorem acknowledge_halt (s : State) (i : CarIx) (r : Reply) :
    (s.acknowledge i r).halt = s.halt := by unfold State.acknowledge; (try dsimp only); (repeat' split) <;> first | (simp; done) | with_reducible rfl
@[simp] theorem acknowledge_choices (s : State) (i : CarIx) (r : Reply) :
    (s.acknowledge i r).choices = s.choices := by unfold State.acknowledge; (try dsimp only); (repeat' split) <;> first | (simp; done) | with_reducible rfl
@[simp] theorem acknowledge_pending (s : State) (i : CarIx) (r : Reply) :
    (s.acknowledge i r).pending = s.pending := by unfold State.acknowledge; (try dsimp only); (repeat' split) <;> first | (simp; done) | with_reducible rfl
@[simp] theorem checkRelease_gates (s : State) (i : CarIx) (e : Nat) :
    (s.checkRelease i e).gates = s.gates := by unfold State.checkRelease; (try dsimp only); (repeat' split) <;> first | (simp; done) | with_reducible rfl
@[simp] theorem checkRelease_zones (s : State) (i : CarIx) (e : Nat) :
    (s.checkRelease i e).zones = s.zones := by unfold State.checkRelease; (try dsimp only); (repeat' split) <;> first | (simp; done) | with_reducible rfl
@[simp] theorem checkRelease_way (s : State) (i : CarIx) (e : Nat) :
    (s.checkRelease i e).way = s.way := by unfold State.checkRelease; (try dsimp only); (repeat' split) <;> first | (simp; done) | with_reducible rfl
@[simp] theorem checkRelease_asks (s : State) (i : CarIx) (e : Nat) :
    (s.checkRelease i e).asks = s.asks := by unfold State.checkRelease; (try dsimp only); (repeat' split) <;> first | (simp; done) | with_reducible rfl
@[simp] theorem checkRelease_admission (s : State) (i : CarIx) (e : Nat) :
    (s.checkRelease i e).admission = s.admission := by unfold State.checkRelease; (try dsimp only); (repeat' split) <;> first | (simp; done) | with_reducible rfl
@[simp] theorem checkRelease_halt (s : State) (i : CarIx) (e : Nat) :
    (s.checkRelease i e).halt = s.halt := by unfold State.checkRelease; (try dsimp only); (repeat' split) <;> first | (simp; done) | with_reducible rfl
@[simp] theorem checkRelease_link (s : State) (i : CarIx) (e : Nat) :
    (s.checkRelease i e).link = s.link := by unfold State.checkRelease; (try dsimp only); (repeat' split) <;> first | (simp; done) | with_reducible rfl
@[simp] theorem checkRelease_choices (s : State) (i : CarIx) (e : Nat) :
    (s.checkRelease i e).choices = s.choices := by unfold State.checkRelease; (try dsimp only); (repeat' split) <;> first | (simp; done) | with_reducible rfl
@[simp] theorem checkRelease_pending (s : State) (i : CarIx) (e : Nat) :
    (s.checkRelease i e).pending = s.pending := by unfold State.checkRelease; (try dsimp only); (repeat' split) <;> first | (simp; done) | with_reducible rfl
@[simp] theorem resolveGrant_queue (s : State) (X : LineId) (i : CarIx) (n : Nat) :
    (s.resolveGrant X i n).queue = s.queue := by unfold State.resolveGrant; (try dsimp only); (repeat' split) <;> first | (simp; done) | with_reducible rfl
@[simp] theorem resolveGrant_gates (s : State) (X : LineId) (i : CarIx) (n : Nat) :
    (s.resolveGrant X i n).gates = s.gates := by unfold State.resolveGrant; (try dsimp only); (repeat' split) <;> first | (simp; done) | with_reducible rfl
@[simp] theorem resolveGrant_zones (s : State) (X : LineId) (i : CarIx) (n : Nat) :
    (s.resolveGrant X i n).zones = s.zones := by unfold State.resolveGrant; (try dsimp only); (repeat' split) <;> first | (simp; done) | with_reducible rfl
@[simp] theorem resolveGrant_way (s : State) (X : LineId) (i : CarIx) (n : Nat) :
    (s.resolveGrant X i n).way = s.way := by unfold State.resolveGrant; (try dsimp only); (repeat' split) <;> first | (simp; done) | with_reducible rfl
@[simp] theorem resolveGrant_asks (s : State) (X : LineId) (i : CarIx) (n : Nat) :
    (s.resolveGrant X i n).asks = s.asks := by unfold State.resolveGrant; (try dsimp only); (repeat' split) <;> first | (simp; done) | with_reducible rfl
@[simp] theorem resolveGrant_admission (s : State) (X : LineId) (i : CarIx) (n : Nat) :
    (s.resolveGrant X i n).admission = s.admission := by unfold State.resolveGrant; (try dsimp only); (repeat' split) <;> first | (simp; done) | with_reducible rfl
@[simp] theorem resolveGrant_halt (s : State) (X : LineId) (i : CarIx) (n : Nat) :
    (s.resolveGrant X i n).halt = s.halt := by unfold State.resolveGrant; (try dsimp only); (repeat' split) <;> first | (simp; done) | with_reducible rfl
@[simp] theorem resolveGrant_link (s : State) (X : LineId) (i : CarIx) (n : Nat) :
    (s.resolveGrant X i n).link = s.link := by unfold State.resolveGrant; (try dsimp only); (repeat' split) <;> first | (simp; done) | with_reducible rfl
@[simp] theorem resolveGrant_choices (s : State) (X : LineId) (i : CarIx) (n : Nat) :
    (s.resolveGrant X i n).choices = s.choices := by unfold State.resolveGrant; (try dsimp only); (repeat' split) <;> first | (simp; done) | with_reducible rfl
@[simp] theorem resolveGrant_pending (s : State) (X : LineId) (i : CarIx) (n : Nat) :
    (s.resolveGrant X i n).pending = s.pending := by unfold State.resolveGrant; (try dsimp only); (repeat' split) <;> first | (simp; done) | with_reducible rfl
@[simp] theorem takeReply_zones (s : State) (X : LineId) (q : PollSlot) (c v l : Nat) (r : Reply) :
    (s.takeReply X q c v l r).zones = s.zones := by unfold State.takeReply; simp [apply_ite State.zones]
@[simp] theorem takeReply_way (s : State) (X : LineId) (q : PollSlot) (c v l : Nat) (r : Reply) :
    (s.takeReply X q c v l r).way = s.way := by unfold State.takeReply; simp [apply_ite State.way]
@[simp] theorem takeReply_asks (s : State) (X : LineId) (q : PollSlot) (c v l : Nat) (r : Reply) :
    (s.takeReply X q c v l r).asks = s.asks := by unfold State.takeReply; simp [apply_ite State.asks]
@[simp] theorem takeReply_admission (s : State) (X : LineId) (q : PollSlot) (c v l : Nat) (r : Reply) :
    (s.takeReply X q c v l r).admission = s.admission := by unfold State.takeReply; simp [apply_ite State.admission]
@[simp] theorem takeReply_halt (s : State) (X : LineId) (q : PollSlot) (c v l : Nat) (r : Reply) :
    (s.takeReply X q c v l r).halt = s.halt := by unfold State.takeReply; simp [apply_ite State.halt]
@[simp] theorem takeReply_pending (s : State) (X : LineId) (q : PollSlot) (c v l : Nat) (r : Reply) :
    (s.takeReply X q c v l r).pending = s.pending := by unfold State.takeReply; simp [apply_ite State.pending]
@[simp] theorem abandonSlot_cars (s : State) (X : LineId) :
    (s.abandonSlot X).cars = s.cars := by unfold State.abandonSlot; (try dsimp only); (repeat' split) <;> first | (simp; done) | with_reducible rfl
@[simp] theorem abandonSlot_gates (s : State) (X : LineId) :
    (s.abandonSlot X).gates = s.gates := by unfold State.abandonSlot; (try dsimp only); (repeat' split) <;> first | (simp; done) | with_reducible rfl
@[simp] theorem abandonSlot_zones (s : State) (X : LineId) :
    (s.abandonSlot X).zones = s.zones := by unfold State.abandonSlot; (try dsimp only); (repeat' split) <;> first | (simp; done) | with_reducible rfl
@[simp] theorem abandonSlot_way (s : State) (X : LineId) :
    (s.abandonSlot X).way = s.way := by unfold State.abandonSlot; (try dsimp only); (repeat' split) <;> first | (simp; done) | with_reducible rfl
@[simp] theorem abandonSlot_asks (s : State) (X : LineId) :
    (s.abandonSlot X).asks = s.asks := by unfold State.abandonSlot; (try dsimp only); (repeat' split) <;> first | (simp; done) | with_reducible rfl
@[simp] theorem abandonSlot_admission (s : State) (X : LineId) :
    (s.abandonSlot X).admission = s.admission := by unfold State.abandonSlot; (try dsimp only); (repeat' split) <;> first | (simp; done) | with_reducible rfl
@[simp] theorem abandonSlot_halt (s : State) (X : LineId) :
    (s.abandonSlot X).halt = s.halt := by unfold State.abandonSlot; (try dsimp only); (repeat' split) <;> first | (simp; done) | with_reducible rfl
@[simp] theorem abandonSlot_link (s : State) (X : LineId) :
    (s.abandonSlot X).link = s.link := by unfold State.abandonSlot; (try dsimp only); (repeat' split) <;> first | (simp; done) | with_reducible rfl
@[simp] theorem abandonSlot_choices (s : State) (X : LineId) :
    (s.abandonSlot X).choices = s.choices := by unfold State.abandonSlot; (try dsimp only); (repeat' split) <;> first | (simp; done) | with_reducible rfl
@[simp] theorem abandonSlot_pending (s : State) (X : LineId) :
    (s.abandonSlot X).pending = s.pending := by unfold State.abandonSlot; (try dsimp only); (repeat' split) <;> first | (simp; done) | with_reducible rfl
@[simp] theorem endEffect_zones (s : State) (X : LineId) (e : EndEffect) :
    (s.endEffect X e).zones = s.zones := by cases e <;> simp [State.endEffect]
@[simp] theorem endEffect_way (s : State) (X : LineId) (e : EndEffect) :
    (s.endEffect X e).way = s.way := by cases e <;> simp [State.endEffect]
@[simp] theorem endEffect_asks (s : State) (X : LineId) (e : EndEffect) :
    (s.endEffect X e).asks = s.asks := by cases e <;> simp [State.endEffect]
@[simp] theorem endEffect_admission (s : State) (X : LineId) (e : EndEffect) :
    (s.endEffect X e).admission = s.admission := by cases e <;> simp [State.endEffect]
@[simp] theorem endEffect_halt (s : State) (X : LineId) (e : EndEffect) :
    (s.endEffect X e).halt = s.halt := by cases e <;> simp [State.endEffect]
@[simp] theorem endEffect_pending (s : State) (X : LineId) (e : EndEffect) :
    (s.endEffect X e).pending = s.pending := by cases e <;> simp [State.endEffect]
@[simp] theorem endCycle_zones (s : State) (X : LineId) :
    (s.endCycle X).zones = s.zones := by unfold State.endCycle; (try dsimp only); (repeat' split) <;> simp [foldl_frame State.zones]
@[simp] theorem endCycle_way (s : State) (X : LineId) :
    (s.endCycle X).way = s.way := by unfold State.endCycle; (try dsimp only); (repeat' split) <;> simp [foldl_frame State.way]
@[simp] theorem endCycle_asks (s : State) (X : LineId) :
    (s.endCycle X).asks = s.asks := by unfold State.endCycle; (try dsimp only); (repeat' split) <;> simp [foldl_frame State.asks]
@[simp] theorem endCycle_admission (s : State) (X : LineId) :
    (s.endCycle X).admission = s.admission := by unfold State.endCycle; (try dsimp only); (repeat' split) <;> simp [foldl_frame State.admission]
@[simp] theorem endCycle_halt (s : State) (X : LineId) :
    (s.endCycle X).halt = s.halt := by unfold State.endCycle; (try dsimp only); (repeat' split) <;> simp [foldl_frame State.halt]
@[simp] theorem endCycle_pending (s : State) (X : LineId) :
    (s.endCycle X).pending = s.pending := by unfold State.endCycle; (try dsimp only); (repeat' split) <;> simp [foldl_frame State.pending]
@[simp] theorem changeLineState_cars (s : State) (X : LineId) (st : LineState) :
    (s.changeLineState X st).cars = s.cars := by unfold State.changeLineState; (try dsimp only); (repeat' split) <;> first | (simp; done) | with_reducible rfl
@[simp] theorem changeLineState_queue (s : State) (X : LineId) (st : LineState) :
    (s.changeLineState X st).queue = s.queue := by unfold State.changeLineState; (try dsimp only); (repeat' split) <;> first | (simp; done) | with_reducible rfl
@[simp] theorem changeLineState_gates (s : State) (X : LineId) (st : LineState) :
    (s.changeLineState X st).gates = s.gates := by unfold State.changeLineState; (try dsimp only); (repeat' split) <;> first | (simp; done) | with_reducible rfl
@[simp] theorem changeLineState_zones (s : State) (X : LineId) (st : LineState) :
    (s.changeLineState X st).zones = s.zones := by unfold State.changeLineState; (try dsimp only); (repeat' split) <;> first | (simp; done) | with_reducible rfl
@[simp] theorem changeLineState_way (s : State) (X : LineId) (st : LineState) :
    (s.changeLineState X st).way = s.way := by unfold State.changeLineState; (try dsimp only); (repeat' split) <;> first | (simp; done) | with_reducible rfl
@[simp] theorem changeLineState_asks (s : State) (X : LineId) (st : LineState) :
    (s.changeLineState X st).asks = s.asks := by unfold State.changeLineState; (try dsimp only); (repeat' split) <;> first | (simp; done) | with_reducible rfl
@[simp] theorem changeLineState_admission (s : State) (X : LineId) (st : LineState) :
    (s.changeLineState X st).admission = s.admission := by unfold State.changeLineState; (try dsimp only); (repeat' split) <;> first | (simp; done) | with_reducible rfl
@[simp] theorem changeLineState_halt (s : State) (X : LineId) (st : LineState) :
    (s.changeLineState X st).halt = s.halt := by unfold State.changeLineState; (try dsimp only); (repeat' split) <;> first | (simp; done) | with_reducible rfl
@[simp] theorem changeLineState_choices (s : State) (X : LineId) (st : LineState) :
    (s.changeLineState X st).choices = s.choices := by unfold State.changeLineState; (try dsimp only); (repeat' split) <;> first | (simp; done) | with_reducible rfl
@[simp] theorem changeLineState_pending (s : State) (X : LineId) (st : LineState) :
    (s.changeLineState X st).pending = s.pending := by unfold State.changeLineState; (try dsimp only); (repeat' split) <;> first | (simp; done) | with_reducible rfl
@[simp] theorem startEngine_cars (s : State) (X : LineId) (k : StartKind) :
    (s.startEngine X k).cars = s.cars := by unfold State.startEngine; (try dsimp only); (repeat' split) <;> first | (simp; done) | with_reducible rfl
@[simp] theorem startEngine_queue (s : State) (X : LineId) (k : StartKind) :
    (s.startEngine X k).queue = s.queue := by unfold State.startEngine; (try dsimp only); (repeat' split) <;> first | (simp; done) | with_reducible rfl
@[simp] theorem startEngine_gates (s : State) (X : LineId) (k : StartKind) :
    (s.startEngine X k).gates = s.gates := by unfold State.startEngine; (try dsimp only); (repeat' split) <;> first | (simp; done) | with_reducible rfl
@[simp] theorem startEngine_zones (s : State) (X : LineId) (k : StartKind) :
    (s.startEngine X k).zones = s.zones := by unfold State.startEngine; (try dsimp only); (repeat' split) <;> first | (simp; done) | with_reducible rfl
@[simp] theorem startEngine_way (s : State) (X : LineId) (k : StartKind) :
    (s.startEngine X k).way = s.way := by unfold State.startEngine; (try dsimp only); (repeat' split) <;> first | (simp; done) | with_reducible rfl
@[simp] theorem startEngine_asks (s : State) (X : LineId) (k : StartKind) :
    (s.startEngine X k).asks = s.asks := by unfold State.startEngine; (try dsimp only); (repeat' split) <;> first | (simp; done) | with_reducible rfl
@[simp] theorem startEngine_admission (s : State) (X : LineId) (k : StartKind) :
    (s.startEngine X k).admission = s.admission := by unfold State.startEngine; (try dsimp only); (repeat' split) <;> first | (simp; done) | with_reducible rfl
@[simp] theorem startEngine_halt (s : State) (X : LineId) (k : StartKind) :
    (s.startEngine X k).halt = s.halt := by unfold State.startEngine; (try dsimp only); (repeat' split) <;> first | (simp; done) | with_reducible rfl
@[simp] theorem startEngine_choices (s : State) (X : LineId) (k : StartKind) :
    (s.startEngine X k).choices = s.choices := by unfold State.startEngine; (try dsimp only); (repeat' split) <;> first | (simp; done) | with_reducible rfl
@[simp] theorem startEngine_pending (s : State) (X : LineId) (k : StartKind) :
    (s.startEngine X k).pending = s.pending := by unfold State.startEngine; (try dsimp only); (repeat' split) <;> first | (simp; done) | with_reducible rfl
@[simp] theorem startEffect_gates (s : State) (X : LineId) (k : StartKind) (e : StartEffect) :
    (s.startEffect X k e).gates = s.gates := by cases e <;> simp [State.startEffect]
@[simp] theorem startEffect_zones (s : State) (X : LineId) (k : StartKind) (e : StartEffect) :
    (s.startEffect X k e).zones = s.zones := by cases e <;> simp [State.startEffect]
@[simp] theorem startEffect_way (s : State) (X : LineId) (k : StartKind) (e : StartEffect) :
    (s.startEffect X k e).way = s.way := by cases e <;> simp [State.startEffect]
@[simp] theorem startEffect_admission (s : State) (X : LineId) (k : StartKind) (e : StartEffect) :
    (s.startEffect X k e).admission = s.admission := by cases e <;> simp [State.startEffect]
@[simp] theorem startEffect_halt (s : State) (X : LineId) (k : StartKind) (e : StartEffect) :
    (s.startEffect X k e).halt = s.halt := by cases e <;> simp [State.startEffect]
@[simp] theorem startEffect_pending (s : State) (X : LineId) (k : StartKind) (e : StartEffect) :
    (s.startEffect X k e).pending = s.pending := by cases e <;> simp [State.startEffect]
@[simp] theorem startCycle_gates (s : State) (X : LineId) (k : StartKind) :
    (s.startCycle X k).gates = s.gates := by unfold State.startCycle; (try dsimp only); (repeat' split) <;> simp [foldl_frame State.gates]
@[simp] theorem startCycle_zones (s : State) (X : LineId) (k : StartKind) :
    (s.startCycle X k).zones = s.zones := by unfold State.startCycle; (try dsimp only); (repeat' split) <;> simp [foldl_frame State.zones]
@[simp] theorem startCycle_way (s : State) (X : LineId) (k : StartKind) :
    (s.startCycle X k).way = s.way := by unfold State.startCycle; (try dsimp only); (repeat' split) <;> simp [foldl_frame State.way]
@[simp] theorem startCycle_admission (s : State) (X : LineId) (k : StartKind) :
    (s.startCycle X k).admission = s.admission := by unfold State.startCycle; (try dsimp only); (repeat' split) <;> simp [foldl_frame State.admission]
@[simp] theorem startCycle_halt (s : State) (X : LineId) (k : StartKind) :
    (s.startCycle X k).halt = s.halt := by unfold State.startCycle; (try dsimp only); (repeat' split) <;> simp [foldl_frame State.halt]
@[simp] theorem startCycle_pending (s : State) (X : LineId) (k : StartKind) :
    (s.startCycle X k).pending = s.pending := by unfold State.startCycle; (try dsimp only); (repeat' split) <;> simp [foldl_frame State.pending]
@[simp] theorem restartCycle_zones (s : State) (X : LineId) :
    (s.restartCycle X).zones = s.zones := by unfold State.restartCycle; (try dsimp only); (repeat' split) <;> first | (simp; done) | with_reducible rfl
@[simp] theorem restartCycle_way (s : State) (X : LineId) :
    (s.restartCycle X).way = s.way := by unfold State.restartCycle; (try dsimp only); (repeat' split) <;> first | (simp; done) | with_reducible rfl
@[simp] theorem restartCycle_admission (s : State) (X : LineId) :
    (s.restartCycle X).admission = s.admission := by unfold State.restartCycle; (try dsimp only); (repeat' split) <;> first | (simp; done) | with_reducible rfl
@[simp] theorem restartCycle_halt (s : State) (X : LineId) :
    (s.restartCycle X).halt = s.halt := by unfold State.restartCycle; (try dsimp only); (repeat' split) <;> first | (simp; done) | with_reducible rfl
@[simp] theorem restartCycle_pending (s : State) (X : LineId) :
    (s.restartCycle X).pending = s.pending := by unfold State.restartCycle; (try dsimp only); (repeat' split) <;> first | (simp; done) | with_reducible rfl
@[simp] theorem depart_zones (s : State) (X : LineId) (st : LineState) :
    (s.depart X st).zones = s.zones := by unfold State.depart; (try dsimp only); (repeat' split) <;> simp [foldl_frame State.zones]
@[simp] theorem depart_way (s : State) (X : LineId) (st : LineState) :
    (s.depart X st).way = s.way := by unfold State.depart; (try dsimp only); (repeat' split) <;> simp [foldl_frame State.way]
@[simp] theorem depart_asks (s : State) (X : LineId) (st : LineState) :
    (s.depart X st).asks = s.asks := by unfold State.depart; (try dsimp only); (repeat' split) <;> simp [foldl_frame State.asks]
@[simp] theorem depart_admission (s : State) (X : LineId) (st : LineState) :
    (s.depart X st).admission = s.admission := by unfold State.depart; (try dsimp only); (repeat' split) <;> simp [foldl_frame State.admission]
@[simp] theorem depart_halt (s : State) (X : LineId) (st : LineState) :
    (s.depart X st).halt = s.halt := by unfold State.depart; (try dsimp only); (repeat' split) <;> simp [foldl_frame State.halt]
@[simp] theorem depart_choices (s : State) (X : LineId) (st : LineState) :
    (s.depart X st).choices = s.choices := by unfold State.depart; (try dsimp only); (repeat' split) <;> simp [foldl_frame State.choices]
@[simp] theorem depart_pending (s : State) (X : LineId) (st : LineState) :
    (s.depart X st).pending = s.pending := by unfold State.depart; (try dsimp only); (repeat' split) <;> simp [foldl_frame State.pending]
@[simp] theorem stopLine_zones (s : State) (X : LineId) :
    (s.stopLine X).zones = s.zones := by unfold State.stopLine; (try dsimp only); (repeat' split) <;> first | (simp; done) | with_reducible rfl
@[simp] theorem stopLine_way (s : State) (X : LineId) :
    (s.stopLine X).way = s.way := by unfold State.stopLine; (try dsimp only); (repeat' split) <;> first | (simp; done) | with_reducible rfl
@[simp] theorem stopLine_admission (s : State) (X : LineId) :
    (s.stopLine X).admission = s.admission := by unfold State.stopLine; (try dsimp only); (repeat' split) <;> first | (simp; done) | with_reducible rfl
@[simp] theorem stopLine_halt (s : State) (X : LineId) :
    (s.stopLine X).halt = s.halt := by unfold State.stopLine; (try dsimp only); (repeat' split) <;> first | (simp; done) | with_reducible rfl
@[simp] theorem stopLine_pending (s : State) (X : LineId) :
    (s.stopLine X).pending = s.pending := by unfold State.stopLine; (try dsimp only); (repeat' split) <;> first | (simp; done) | with_reducible rfl
@[simp] theorem setCause_zones (s : State) (c : HaltCause) :
    (s.setCause c).zones = s.zones := by unfold State.setCause; (try dsimp only); (repeat' split) <;> simp [foldl_frame State.zones]
@[simp] theorem setCause_way (s : State) (c : HaltCause) :
    (s.setCause c).way = s.way := by unfold State.setCause; (try dsimp only); (repeat' split) <;> simp [foldl_frame State.way]
@[simp] theorem setCause_admission (s : State) (c : HaltCause) :
    (s.setCause c).admission = s.admission := by unfold State.setCause; (try dsimp only); (repeat' split) <;> simp [foldl_frame State.admission]
@[simp] theorem setCause_pending (s : State) (c : HaltCause) :
    (s.setCause c).pending = s.pending := by unfold State.setCause; (try dsimp only); (repeat' split) <;> simp [foldl_frame State.pending]
@[simp] theorem clearBurst_cars (s : State) (X : LineId) :
    (s.clearBurst X).cars = s.cars := by unfold State.clearBurst; (try dsimp only); (repeat' split) <;> first | (simp; done) | with_reducible rfl
@[simp] theorem clearBurst_queue (s : State) (X : LineId) :
    (s.clearBurst X).queue = s.queue := by unfold State.clearBurst; (try dsimp only); (repeat' split) <;> first | (simp; done) | with_reducible rfl
@[simp] theorem clearBurst_gates (s : State) (X : LineId) :
    (s.clearBurst X).gates = s.gates := by unfold State.clearBurst; (try dsimp only); (repeat' split) <;> first | (simp; done) | with_reducible rfl
@[simp] theorem clearBurst_zones (s : State) (X : LineId) :
    (s.clearBurst X).zones = s.zones := by unfold State.clearBurst; (try dsimp only); (repeat' split) <;> first | (simp; done) | with_reducible rfl
@[simp] theorem clearBurst_way (s : State) (X : LineId) :
    (s.clearBurst X).way = s.way := by unfold State.clearBurst; (try dsimp only); (repeat' split) <;> first | (simp; done) | with_reducible rfl
@[simp] theorem clearBurst_asks (s : State) (X : LineId) :
    (s.clearBurst X).asks = s.asks := by unfold State.clearBurst; (try dsimp only); (repeat' split) <;> first | (simp; done) | with_reducible rfl
@[simp] theorem clearBurst_admission (s : State) (X : LineId) :
    (s.clearBurst X).admission = s.admission := by unfold State.clearBurst; (try dsimp only); (repeat' split) <;> first | (simp; done) | with_reducible rfl
@[simp] theorem clearBurst_halt (s : State) (X : LineId) :
    (s.clearBurst X).halt = s.halt := by unfold State.clearBurst; (try dsimp only); (repeat' split) <;> first | (simp; done) | with_reducible rfl
@[simp] theorem clearBurst_link (s : State) (X : LineId) :
    (s.clearBurst X).link = s.link := by unfold State.clearBurst; (try dsimp only); (repeat' split) <;> first | (simp; done) | with_reducible rfl
@[simp] theorem clearBurst_choices (s : State) (X : LineId) :
    (s.clearBurst X).choices = s.choices := by unfold State.clearBurst; (try dsimp only); (repeat' split) <;> first | (simp; done) | with_reducible rfl
@[simp] theorem clearBurst_pending (s : State) (X : LineId) :
    (s.clearBurst X).pending = s.pending := by unfold State.clearBurst; (try dsimp only); (repeat' split) <;> first | (simp; done) | with_reducible rfl
@[simp] theorem noteTraffic_cars (s : State) (X : LineId) :
    (s.noteTraffic X).cars = s.cars := by unfold State.noteTraffic; (try dsimp only); (repeat' split) <;> first | (simp; done) | with_reducible rfl
@[simp] theorem noteTraffic_queue (s : State) (X : LineId) :
    (s.noteTraffic X).queue = s.queue := by unfold State.noteTraffic; (try dsimp only); (repeat' split) <;> first | (simp; done) | with_reducible rfl
@[simp] theorem noteTraffic_gates (s : State) (X : LineId) :
    (s.noteTraffic X).gates = s.gates := by unfold State.noteTraffic; (try dsimp only); (repeat' split) <;> first | (simp; done) | with_reducible rfl
@[simp] theorem noteTraffic_zones (s : State) (X : LineId) :
    (s.noteTraffic X).zones = s.zones := by unfold State.noteTraffic; (try dsimp only); (repeat' split) <;> first | (simp; done) | with_reducible rfl
@[simp] theorem noteTraffic_way (s : State) (X : LineId) :
    (s.noteTraffic X).way = s.way := by unfold State.noteTraffic; (try dsimp only); (repeat' split) <;> first | (simp; done) | with_reducible rfl
@[simp] theorem noteTraffic_asks (s : State) (X : LineId) :
    (s.noteTraffic X).asks = s.asks := by unfold State.noteTraffic; (try dsimp only); (repeat' split) <;> first | (simp; done) | with_reducible rfl
@[simp] theorem noteTraffic_admission (s : State) (X : LineId) :
    (s.noteTraffic X).admission = s.admission := by unfold State.noteTraffic; (try dsimp only); (repeat' split) <;> first | (simp; done) | with_reducible rfl
@[simp] theorem noteTraffic_halt (s : State) (X : LineId) :
    (s.noteTraffic X).halt = s.halt := by unfold State.noteTraffic; (try dsimp only); (repeat' split) <;> first | (simp; done) | with_reducible rfl
@[simp] theorem noteTraffic_link (s : State) (X : LineId) :
    (s.noteTraffic X).link = s.link := by unfold State.noteTraffic; (try dsimp only); (repeat' split) <;> first | (simp; done) | with_reducible rfl
@[simp] theorem noteTraffic_choices (s : State) (X : LineId) :
    (s.noteTraffic X).choices = s.choices := by unfold State.noteTraffic; (try dsimp only); (repeat' split) <;> first | (simp; done) | with_reducible rfl
@[simp] theorem noteTraffic_pending (s : State) (X : LineId) :
    (s.noteTraffic X).pending = s.pending := by unfold State.noteTraffic; (try dsimp only); (repeat' split) <;> first | (simp; done) | with_reducible rfl
@[simp] theorem markDone_cars (s : State) (X : LineId) :
    (s.markDone X).cars = s.cars := by unfold State.markDone; (try dsimp only); (repeat' split) <;> first | (simp; done) | with_reducible rfl
@[simp] theorem markDone_queue (s : State) (X : LineId) :
    (s.markDone X).queue = s.queue := by unfold State.markDone; (try dsimp only); (repeat' split) <;> first | (simp; done) | with_reducible rfl
@[simp] theorem markDone_gates (s : State) (X : LineId) :
    (s.markDone X).gates = s.gates := by unfold State.markDone; (try dsimp only); (repeat' split) <;> first | (simp; done) | with_reducible rfl
@[simp] theorem markDone_zones (s : State) (X : LineId) :
    (s.markDone X).zones = s.zones := by unfold State.markDone; (try dsimp only); (repeat' split) <;> first | (simp; done) | with_reducible rfl
@[simp] theorem markDone_way (s : State) (X : LineId) :
    (s.markDone X).way = s.way := by unfold State.markDone; (try dsimp only); (repeat' split) <;> first | (simp; done) | with_reducible rfl
@[simp] theorem markDone_asks (s : State) (X : LineId) :
    (s.markDone X).asks = s.asks := by unfold State.markDone; (try dsimp only); (repeat' split) <;> first | (simp; done) | with_reducible rfl
@[simp] theorem markDone_admission (s : State) (X : LineId) :
    (s.markDone X).admission = s.admission := by unfold State.markDone; (try dsimp only); (repeat' split) <;> first | (simp; done) | with_reducible rfl
@[simp] theorem markDone_halt (s : State) (X : LineId) :
    (s.markDone X).halt = s.halt := by unfold State.markDone; (try dsimp only); (repeat' split) <;> first | (simp; done) | with_reducible rfl
@[simp] theorem markDone_link (s : State) (X : LineId) :
    (s.markDone X).link = s.link := by unfold State.markDone; (try dsimp only); (repeat' split) <;> first | (simp; done) | with_reducible rfl
@[simp] theorem markDone_choices (s : State) (X : LineId) :
    (s.markDone X).choices = s.choices := by unfold State.markDone; (try dsimp only); (repeat' split) <;> first | (simp; done) | with_reducible rfl
@[simp] theorem markDone_pending (s : State) (X : LineId) :
    (s.markDone X).pending = s.pending := by unfold State.markDone; (try dsimp only); (repeat' split) <;> first | (simp; done) | with_reducible rfl
@[simp] theorem wordSent_gates (s : State) (X : LineId) (w : DriveWord) :
    (s.wordSent X w).gates = s.gates := by unfold State.wordSent; (try dsimp only); (repeat' split) <;> first | (simp; done) | with_reducible rfl
@[simp] theorem wordSent_zones (s : State) (X : LineId) (w : DriveWord) :
    (s.wordSent X w).zones = s.zones := by unfold State.wordSent; (try dsimp only); (repeat' split) <;> first | (simp; done) | with_reducible rfl
@[simp] theorem wordSent_way (s : State) (X : LineId) (w : DriveWord) :
    (s.wordSent X w).way = s.way := by unfold State.wordSent; (try dsimp only); (repeat' split) <;> first | (simp; done) | with_reducible rfl
@[simp] theorem wordSent_asks (s : State) (X : LineId) (w : DriveWord) :
    (s.wordSent X w).asks = s.asks := by unfold State.wordSent; (try dsimp only); (repeat' split) <;> first | (simp; done) | with_reducible rfl
@[simp] theorem wordSent_admission (s : State) (X : LineId) (w : DriveWord) :
    (s.wordSent X w).admission = s.admission := by unfold State.wordSent; (try dsimp only); (repeat' split) <;> first | (simp; done) | with_reducible rfl
@[simp] theorem wordSent_halt (s : State) (X : LineId) (w : DriveWord) :
    (s.wordSent X w).halt = s.halt := by unfold State.wordSent; (try dsimp only); (repeat' split) <;> first | (simp; done) | with_reducible rfl
@[simp] theorem wordSent_link (s : State) (X : LineId) (w : DriveWord) :
    (s.wordSent X w).link = s.link := by unfold State.wordSent; (try dsimp only); (repeat' split) <;> first | (simp; done) | with_reducible rfl
@[simp] theorem wordSent_choices (s : State) (X : LineId) (w : DriveWord) :
    (s.wordSent X w).choices = s.choices := by unfold State.wordSent; (try dsimp only); (repeat' split) <;> first | (simp; done) | with_reducible rfl
@[simp] theorem wordSent_pending (s : State) (X : LineId) (w : DriveWord) :
    (s.wordSent X w).pending = s.pending := by unfold State.wordSent; (try dsimp only); (repeat' split) <;> first | (simp; done) | with_reducible rfl
@[simp] theorem fragmentSent_lineA (s : State) (X : LineId) :
    (s.fragmentSent X).lineA = s.lineA := by unfold State.fragmentSent; (try dsimp only); (repeat' split) <;> first | (simp; done) | with_reducible rfl
@[simp] theorem fragmentSent_lineB (s : State) (X : LineId) :
    (s.fragmentSent X).lineB = s.lineB := by unfold State.fragmentSent; (try dsimp only); (repeat' split) <;> first | (simp; done) | with_reducible rfl
@[simp] theorem fragmentSent_gates (s : State) (X : LineId) :
    (s.fragmentSent X).gates = s.gates := by unfold State.fragmentSent; (try dsimp only); (repeat' split) <;> first | (simp; done) | with_reducible rfl
@[simp] theorem fragmentSent_zones (s : State) (X : LineId) :
    (s.fragmentSent X).zones = s.zones := by unfold State.fragmentSent; (try dsimp only); (repeat' split) <;> first | (simp; done) | with_reducible rfl
@[simp] theorem fragmentSent_way (s : State) (X : LineId) :
    (s.fragmentSent X).way = s.way := by unfold State.fragmentSent; (try dsimp only); (repeat' split) <;> first | (simp; done) | with_reducible rfl
@[simp] theorem fragmentSent_asks (s : State) (X : LineId) :
    (s.fragmentSent X).asks = s.asks := by unfold State.fragmentSent; (try dsimp only); (repeat' split) <;> first | (simp; done) | with_reducible rfl
@[simp] theorem fragmentSent_admission (s : State) (X : LineId) :
    (s.fragmentSent X).admission = s.admission := by unfold State.fragmentSent; (try dsimp only); (repeat' split) <;> first | (simp; done) | with_reducible rfl
@[simp] theorem fragmentSent_halt (s : State) (X : LineId) :
    (s.fragmentSent X).halt = s.halt := by unfold State.fragmentSent; (try dsimp only); (repeat' split) <;> first | (simp; done) | with_reducible rfl
@[simp] theorem fragmentSent_link (s : State) (X : LineId) :
    (s.fragmentSent X).link = s.link := by unfold State.fragmentSent; (try dsimp only); (repeat' split) <;> first | (simp; done) | with_reducible rfl
@[simp] theorem fragmentSent_choices (s : State) (X : LineId) :
    (s.fragmentSent X).choices = s.choices := by unfold State.fragmentSent; (try dsimp only); (repeat' split) <;> first | (simp; done) | with_reducible rfl
@[simp] theorem fragmentSent_pending (s : State) (X : LineId) :
    (s.fragmentSent X).pending = s.pending := by unfold State.fragmentSent; (try dsimp only); (repeat' split) <;> first | (simp; done) | with_reducible rfl
@[simp] theorem assignSent_lineA (s : State) (X : LineId) :
    (s.assignSent X).lineA = s.lineA := by unfold State.assignSent; (try dsimp only); (repeat' split) <;> first | (simp; done) | with_reducible rfl
@[simp] theorem assignSent_lineB (s : State) (X : LineId) :
    (s.assignSent X).lineB = s.lineB := by unfold State.assignSent; (try dsimp only); (repeat' split) <;> first | (simp; done) | with_reducible rfl
@[simp] theorem assignSent_cars (s : State) (X : LineId) :
    (s.assignSent X).cars = s.cars := by unfold State.assignSent; (try dsimp only); (repeat' split) <;> first | (simp; done) | with_reducible rfl
@[simp] theorem assignSent_gates (s : State) (X : LineId) :
    (s.assignSent X).gates = s.gates := by unfold State.assignSent; (try dsimp only); (repeat' split) <;> first | (simp; done) | with_reducible rfl
@[simp] theorem assignSent_zones (s : State) (X : LineId) :
    (s.assignSent X).zones = s.zones := by unfold State.assignSent; (try dsimp only); (repeat' split) <;> first | (simp; done) | with_reducible rfl
@[simp] theorem assignSent_way (s : State) (X : LineId) :
    (s.assignSent X).way = s.way := by unfold State.assignSent; (try dsimp only); (repeat' split) <;> first | (simp; done) | with_reducible rfl
@[simp] theorem assignSent_asks (s : State) (X : LineId) :
    (s.assignSent X).asks = s.asks := by unfold State.assignSent; (try dsimp only); (repeat' split) <;> first | (simp; done) | with_reducible rfl
@[simp] theorem assignSent_admission (s : State) (X : LineId) :
    (s.assignSent X).admission = s.admission := by unfold State.assignSent; (try dsimp only); (repeat' split) <;> first | (simp; done) | with_reducible rfl
@[simp] theorem assignSent_halt (s : State) (X : LineId) :
    (s.assignSent X).halt = s.halt := by unfold State.assignSent; (try dsimp only); (repeat' split) <;> first | (simp; done) | with_reducible rfl
@[simp] theorem assignSent_link (s : State) (X : LineId) :
    (s.assignSent X).link = s.link := by unfold State.assignSent; (try dsimp only); (repeat' split) <;> first | (simp; done) | with_reducible rfl
@[simp] theorem assignSent_choices (s : State) (X : LineId) :
    (s.assignSent X).choices = s.choices := by unfold State.assignSent; (try dsimp only); (repeat' split) <;> first | (simp; done) | with_reducible rfl
@[simp] theorem assignSent_pending (s : State) (X : LineId) :
    (s.assignSent X).pending = s.pending := by unfold State.assignSent; (try dsimp only); (repeat' split) <;> first | (simp; done) | with_reducible rfl
@[simp] theorem driveDone_gates (s : State) (X : LineId) (w : DriveWord) :
    (s.driveDone X w).gates = s.gates := by unfold State.driveDone; (try dsimp only); (repeat' split) <;> first | (simp; done) | with_reducible rfl
@[simp] theorem driveDone_zones (s : State) (X : LineId) (w : DriveWord) :
    (s.driveDone X w).zones = s.zones := by unfold State.driveDone; (try dsimp only); (repeat' split) <;> first | (simp; done) | with_reducible rfl
@[simp] theorem driveDone_way (s : State) (X : LineId) (w : DriveWord) :
    (s.driveDone X w).way = s.way := by unfold State.driveDone; (try dsimp only); (repeat' split) <;> first | (simp; done) | with_reducible rfl
@[simp] theorem driveDone_asks (s : State) (X : LineId) (w : DriveWord) :
    (s.driveDone X w).asks = s.asks := by unfold State.driveDone; (try dsimp only); (repeat' split) <;> first | (simp; done) | with_reducible rfl
@[simp] theorem driveDone_admission (s : State) (X : LineId) (w : DriveWord) :
    (s.driveDone X w).admission = s.admission := by unfold State.driveDone; (try dsimp only); (repeat' split) <;> first | (simp; done) | with_reducible rfl
@[simp] theorem driveDone_halt (s : State) (X : LineId) (w : DriveWord) :
    (s.driveDone X w).halt = s.halt := by unfold State.driveDone; (try dsimp only); (repeat' split) <;> first | (simp; done) | with_reducible rfl
@[simp] theorem driveDone_link (s : State) (X : LineId) (w : DriveWord) :
    (s.driveDone X w).link = s.link := by unfold State.driveDone; (try dsimp only); (repeat' split) <;> first | (simp; done) | with_reducible rfl
@[simp] theorem driveDone_choices (s : State) (X : LineId) (w : DriveWord) :
    (s.driveDone X w).choices = s.choices := by unfold State.driveDone; (try dsimp only); (repeat' split) <;> first | (simp; done) | with_reducible rfl
@[simp] theorem driveDone_pending (s : State) (X : LineId) (w : DriveWord) :
    (s.driveDone X w).pending = s.pending := by unfold State.driveDone; (try dsimp only); (repeat' split) <;> first | (simp; done) | with_reducible rfl
@[simp] theorem textDone_gates (s : State) (X : LineId) :
    (s.textDone X).gates = s.gates := by unfold State.textDone; (try dsimp only); (repeat' split) <;> first | (simp; done) | with_reducible rfl
@[simp] theorem textDone_zones (s : State) (X : LineId) :
    (s.textDone X).zones = s.zones := by unfold State.textDone; (try dsimp only); (repeat' split) <;> first | (simp; done) | with_reducible rfl
@[simp] theorem textDone_way (s : State) (X : LineId) :
    (s.textDone X).way = s.way := by unfold State.textDone; (try dsimp only); (repeat' split) <;> first | (simp; done) | with_reducible rfl
@[simp] theorem textDone_asks (s : State) (X : LineId) :
    (s.textDone X).asks = s.asks := by unfold State.textDone; (try dsimp only); (repeat' split) <;> first | (simp; done) | with_reducible rfl
@[simp] theorem textDone_admission (s : State) (X : LineId) :
    (s.textDone X).admission = s.admission := by unfold State.textDone; (try dsimp only); (repeat' split) <;> first | (simp; done) | with_reducible rfl
@[simp] theorem textDone_halt (s : State) (X : LineId) :
    (s.textDone X).halt = s.halt := by unfold State.textDone; (try dsimp only); (repeat' split) <;> first | (simp; done) | with_reducible rfl
@[simp] theorem textDone_link (s : State) (X : LineId) :
    (s.textDone X).link = s.link := by unfold State.textDone; (try dsimp only); (repeat' split) <;> first | (simp; done) | with_reducible rfl
@[simp] theorem textDone_choices (s : State) (X : LineId) :
    (s.textDone X).choices = s.choices := by unfold State.textDone; (try dsimp only); (repeat' split) <;> first | (simp; done) | with_reducible rfl
@[simp] theorem textDone_pending (s : State) (X : LineId) :
    (s.textDone X).pending = s.pending := by unfold State.textDone; (try dsimp only); (repeat' split) <;> first | (simp; done) | with_reducible rfl
@[simp] theorem assignDone_cars (s : State) (X : LineId) :
    (s.assignDone X).cars = s.cars := by unfold State.assignDone; (try dsimp only); (repeat' split) <;> first | (simp; done) | with_reducible rfl
@[simp] theorem assignDone_gates (s : State) (X : LineId) :
    (s.assignDone X).gates = s.gates := by unfold State.assignDone; (try dsimp only); (repeat' split) <;> first | (simp; done) | with_reducible rfl
@[simp] theorem assignDone_zones (s : State) (X : LineId) :
    (s.assignDone X).zones = s.zones := by unfold State.assignDone; (try dsimp only); (repeat' split) <;> first | (simp; done) | with_reducible rfl
@[simp] theorem assignDone_way (s : State) (X : LineId) :
    (s.assignDone X).way = s.way := by unfold State.assignDone; (try dsimp only); (repeat' split) <;> first | (simp; done) | with_reducible rfl
@[simp] theorem assignDone_asks (s : State) (X : LineId) :
    (s.assignDone X).asks = s.asks := by unfold State.assignDone; (try dsimp only); (repeat' split) <;> first | (simp; done) | with_reducible rfl
@[simp] theorem assignDone_admission (s : State) (X : LineId) :
    (s.assignDone X).admission = s.admission := by unfold State.assignDone; (try dsimp only); (repeat' split) <;> first | (simp; done) | with_reducible rfl
@[simp] theorem assignDone_halt (s : State) (X : LineId) :
    (s.assignDone X).halt = s.halt := by unfold State.assignDone; (try dsimp only); (repeat' split) <;> first | (simp; done) | with_reducible rfl
@[simp] theorem assignDone_link (s : State) (X : LineId) :
    (s.assignDone X).link = s.link := by unfold State.assignDone; (try dsimp only); (repeat' split) <;> first | (simp; done) | with_reducible rfl
@[simp] theorem assignDone_choices (s : State) (X : LineId) :
    (s.assignDone X).choices = s.choices := by unfold State.assignDone; (try dsimp only); (repeat' split) <;> first | (simp; done) | with_reducible rfl
@[simp] theorem assignDone_pending (s : State) (X : LineId) :
    (s.assignDone X).pending = s.pending := by unfold State.assignDone; (try dsimp only); (repeat' split) <;> first | (simp; done) | with_reducible rfl
@[simp] theorem pollDone_gates (s : State) (X : LineId) (q : PollSlot) (w : Option DriveWord) :
    (s.pollDone X q w).gates = s.gates := by unfold State.pollDone; (try dsimp only); (repeat' split) <;> first | (simp; done) | with_reducible rfl
@[simp] theorem pollDone_zones (s : State) (X : LineId) (q : PollSlot) (w : Option DriveWord) :
    (s.pollDone X q w).zones = s.zones := by unfold State.pollDone; (try dsimp only); (repeat' split) <;> first | (simp; done) | with_reducible rfl
@[simp] theorem pollDone_way (s : State) (X : LineId) (q : PollSlot) (w : Option DriveWord) :
    (s.pollDone X q w).way = s.way := by unfold State.pollDone; (try dsimp only); (repeat' split) <;> first | (simp; done) | with_reducible rfl
@[simp] theorem pollDone_asks (s : State) (X : LineId) (q : PollSlot) (w : Option DriveWord) :
    (s.pollDone X q w).asks = s.asks := by unfold State.pollDone; (try dsimp only); (repeat' split) <;> first | (simp; done) | with_reducible rfl
@[simp] theorem pollDone_admission (s : State) (X : LineId) (q : PollSlot) (w : Option DriveWord) :
    (s.pollDone X q w).admission = s.admission := by unfold State.pollDone; (try dsimp only); (repeat' split) <;> first | (simp; done) | with_reducible rfl
@[simp] theorem pollDone_halt (s : State) (X : LineId) (q : PollSlot) (w : Option DriveWord) :
    (s.pollDone X q w).halt = s.halt := by unfold State.pollDone; (try dsimp only); (repeat' split) <;> first | (simp; done) | with_reducible rfl
@[simp] theorem pollDone_link (s : State) (X : LineId) (q : PollSlot) (w : Option DriveWord) :
    (s.pollDone X q w).link = s.link := by unfold State.pollDone; (try dsimp only); (repeat' split) <;> first | (simp; done) | with_reducible rfl
@[simp] theorem pollDone_choices (s : State) (X : LineId) (q : PollSlot) (w : Option DriveWord) :
    (s.pollDone X q w).choices = s.choices := by unfold State.pollDone; (try dsimp only); (repeat' split) <;> first | (simp; done) | with_reducible rfl
@[simp] theorem pollDone_pending (s : State) (X : LineId) (q : PollSlot) (w : Option DriveWord) :
    (s.pollDone X q w).pending = s.pending := by unfold State.pollDone; (try dsimp only); (repeat' split) <;> first | (simp; done) | with_reducible rfl
@[simp] theorem finishBurst_gates (s : State) (X : LineId) :
    (s.finishBurst X).gates = s.gates := by unfold State.finishBurst; (try dsimp only); (repeat' split) <;> first | (simp; done) | with_reducible rfl
@[simp] theorem finishBurst_zones (s : State) (X : LineId) :
    (s.finishBurst X).zones = s.zones := by unfold State.finishBurst; (try dsimp only); (repeat' split) <;> first | (simp; done) | with_reducible rfl
@[simp] theorem finishBurst_way (s : State) (X : LineId) :
    (s.finishBurst X).way = s.way := by unfold State.finishBurst; (try dsimp only); (repeat' split) <;> first | (simp; done) | with_reducible rfl
@[simp] theorem finishBurst_asks (s : State) (X : LineId) :
    (s.finishBurst X).asks = s.asks := by unfold State.finishBurst; (try dsimp only); (repeat' split) <;> first | (simp; done) | with_reducible rfl
@[simp] theorem finishBurst_admission (s : State) (X : LineId) :
    (s.finishBurst X).admission = s.admission := by unfold State.finishBurst; (try dsimp only); (repeat' split) <;> first | (simp; done) | with_reducible rfl
@[simp] theorem finishBurst_halt (s : State) (X : LineId) :
    (s.finishBurst X).halt = s.halt := by unfold State.finishBurst; (try dsimp only); (repeat' split) <;> first | (simp; done) | with_reducible rfl
@[simp] theorem finishBurst_link (s : State) (X : LineId) :
    (s.finishBurst X).link = s.link := by unfold State.finishBurst; (try dsimp only); (repeat' split) <;> first | (simp; done) | with_reducible rfl
@[simp] theorem finishBurst_choices (s : State) (X : LineId) :
    (s.finishBurst X).choices = s.choices := by unfold State.finishBurst; (try dsimp only); (repeat' split) <;> first | (simp; done) | with_reducible rfl
@[simp] theorem finishBurst_pending (s : State) (X : LineId) :
    (s.finishBurst X).pending = s.pending := by unfold State.finishBurst; (try dsimp only); (repeat' split) <;> first | (simp; done) | with_reducible rfl
@[simp] theorem beginSlot_cars (s : State) (X : LineId) (a : AirSlot) :
    (s.beginSlot X a).cars = s.cars := by unfold State.beginSlot; (try dsimp only); (repeat' split) <;> first | (simp; done) | with_reducible rfl
@[simp] theorem beginSlot_queue (s : State) (X : LineId) (a : AirSlot) :
    (s.beginSlot X a).queue = s.queue := by unfold State.beginSlot; (try dsimp only); (repeat' split) <;> first | (simp; done) | with_reducible rfl
@[simp] theorem beginSlot_gates (s : State) (X : LineId) (a : AirSlot) :
    (s.beginSlot X a).gates = s.gates := by unfold State.beginSlot; (try dsimp only); (repeat' split) <;> first | (simp; done) | with_reducible rfl
@[simp] theorem beginSlot_zones (s : State) (X : LineId) (a : AirSlot) :
    (s.beginSlot X a).zones = s.zones := by unfold State.beginSlot; (try dsimp only); (repeat' split) <;> first | (simp; done) | with_reducible rfl
@[simp] theorem beginSlot_way (s : State) (X : LineId) (a : AirSlot) :
    (s.beginSlot X a).way = s.way := by unfold State.beginSlot; (try dsimp only); (repeat' split) <;> first | (simp; done) | with_reducible rfl
@[simp] theorem beginSlot_asks (s : State) (X : LineId) (a : AirSlot) :
    (s.beginSlot X a).asks = s.asks := by unfold State.beginSlot; (try dsimp only); (repeat' split) <;> first | (simp; done) | with_reducible rfl
@[simp] theorem beginSlot_admission (s : State) (X : LineId) (a : AirSlot) :
    (s.beginSlot X a).admission = s.admission := by unfold State.beginSlot; (try dsimp only); (repeat' split) <;> first | (simp; done) | with_reducible rfl
@[simp] theorem beginSlot_halt (s : State) (X : LineId) (a : AirSlot) :
    (s.beginSlot X a).halt = s.halt := by unfold State.beginSlot; (try dsimp only); (repeat' split) <;> first | (simp; done) | with_reducible rfl
@[simp] theorem beginSlot_link (s : State) (X : LineId) (a : AirSlot) :
    (s.beginSlot X a).link = s.link := by unfold State.beginSlot; (try dsimp only); (repeat' split) <;> first | (simp; done) | with_reducible rfl
@[simp] theorem beginSlot_choices (s : State) (X : LineId) (a : AirSlot) :
    (s.beginSlot X a).choices = s.choices := by unfold State.beginSlot; (try dsimp only); (repeat' split) <;> first | (simp; done) | with_reducible rfl
@[simp] theorem beginSlot_pending (s : State) (X : LineId) (a : AirSlot) :
    (s.beginSlot X a).pending = s.pending := by unfold State.beginSlot; (try dsimp only); (repeat' split) <;> first | (simp; done) | with_reducible rfl
@[simp] theorem sendPoll_gates (s : State) (X : LineId) (i : CarIx) :
    (s.sendPoll X i).gates = s.gates := by unfold State.sendPoll; (try dsimp only); (repeat' split) <;> first | (simp; done) | with_reducible rfl
@[simp] theorem sendPoll_zones (s : State) (X : LineId) (i : CarIx) :
    (s.sendPoll X i).zones = s.zones := by unfold State.sendPoll; (try dsimp only); (repeat' split) <;> first | (simp; done) | with_reducible rfl
@[simp] theorem sendPoll_way (s : State) (X : LineId) (i : CarIx) :
    (s.sendPoll X i).way = s.way := by unfold State.sendPoll; (try dsimp only); (repeat' split) <;> first | (simp; done) | with_reducible rfl
@[simp] theorem sendPoll_asks (s : State) (X : LineId) (i : CarIx) :
    (s.sendPoll X i).asks = s.asks := by unfold State.sendPoll; (try dsimp only); (repeat' split) <;> first | (simp; done) | with_reducible rfl
@[simp] theorem sendPoll_admission (s : State) (X : LineId) (i : CarIx) :
    (s.sendPoll X i).admission = s.admission := by unfold State.sendPoll; (try dsimp only); (repeat' split) <;> first | (simp; done) | with_reducible rfl
@[simp] theorem sendPoll_halt (s : State) (X : LineId) (i : CarIx) :
    (s.sendPoll X i).halt = s.halt := by unfold State.sendPoll; (try dsimp only); (repeat' split) <;> first | (simp; done) | with_reducible rfl
@[simp] theorem sendPoll_link (s : State) (X : LineId) (i : CarIx) :
    (s.sendPoll X i).link = s.link := by unfold State.sendPoll; (try dsimp only); (repeat' split) <;> first | (simp; done) | with_reducible rfl
@[simp] theorem sendPoll_choices (s : State) (X : LineId) (i : CarIx) :
    (s.sendPoll X i).choices = s.choices := by unfold State.sendPoll; (try dsimp only); (repeat' split) <;> first | (simp; done) | with_reducible rfl
@[simp] theorem sendPoll_pending (s : State) (X : LineId) (i : CarIx) :
    (s.sendPoll X i).pending = s.pending := by unfold State.sendPoll; (try dsimp only); (repeat' split) <;> first | (simp; done) | with_reducible rfl
@[simp] theorem beginPoll_gates (s : State) (X : LineId) :
    (s.beginPoll X).gates = s.gates := by unfold State.beginPoll; (try dsimp only); (repeat' split) <;> first | (simp; done) | with_reducible rfl
@[simp] theorem beginPoll_zones (s : State) (X : LineId) :
    (s.beginPoll X).zones = s.zones := by unfold State.beginPoll; (try dsimp only); (repeat' split) <;> first | (simp; done) | with_reducible rfl
@[simp] theorem beginPoll_way (s : State) (X : LineId) :
    (s.beginPoll X).way = s.way := by unfold State.beginPoll; (try dsimp only); (repeat' split) <;> first | (simp; done) | with_reducible rfl
@[simp] theorem beginPoll_asks (s : State) (X : LineId) :
    (s.beginPoll X).asks = s.asks := by unfold State.beginPoll; (try dsimp only); (repeat' split) <;> first | (simp; done) | with_reducible rfl
@[simp] theorem beginPoll_admission (s : State) (X : LineId) :
    (s.beginPoll X).admission = s.admission := by unfold State.beginPoll; (try dsimp only); (repeat' split) <;> first | (simp; done) | with_reducible rfl
@[simp] theorem beginPoll_halt (s : State) (X : LineId) :
    (s.beginPoll X).halt = s.halt := by unfold State.beginPoll; (try dsimp only); (repeat' split) <;> first | (simp; done) | with_reducible rfl
@[simp] theorem beginPoll_link (s : State) (X : LineId) :
    (s.beginPoll X).link = s.link := by unfold State.beginPoll; (try dsimp only); (repeat' split) <;> first | (simp; done) | with_reducible rfl
@[simp] theorem beginPoll_choices (s : State) (X : LineId) :
    (s.beginPoll X).choices = s.choices := by unfold State.beginPoll; (try dsimp only); (repeat' split) <;> first | (simp; done) | with_reducible rfl
@[simp] theorem beginPoll_pending (s : State) (X : LineId) :
    (s.beginPoll X).pending = s.pending := by unfold State.beginPoll; (try dsimp only); (repeat' split) <;> first | (simp; done) | with_reducible rfl
@[simp] theorem sendCommand_cars (s : State) (X : LineId) (e : Entry) :
    (s.sendCommand X e).cars = s.cars := by unfold State.sendCommand; (try dsimp only); (repeat' split) <;> first | (simp; done) | with_reducible rfl
@[simp] theorem sendCommand_gates (s : State) (X : LineId) (e : Entry) :
    (s.sendCommand X e).gates = s.gates := by unfold State.sendCommand; (try dsimp only); (repeat' split) <;> first | (simp; done) | with_reducible rfl
@[simp] theorem sendCommand_zones (s : State) (X : LineId) (e : Entry) :
    (s.sendCommand X e).zones = s.zones := by unfold State.sendCommand; (try dsimp only); (repeat' split) <;> first | (simp; done) | with_reducible rfl
@[simp] theorem sendCommand_way (s : State) (X : LineId) (e : Entry) :
    (s.sendCommand X e).way = s.way := by unfold State.sendCommand; (try dsimp only); (repeat' split) <;> first | (simp; done) | with_reducible rfl
@[simp] theorem sendCommand_asks (s : State) (X : LineId) (e : Entry) :
    (s.sendCommand X e).asks = s.asks := by unfold State.sendCommand; (try dsimp only); (repeat' split) <;> first | (simp; done) | with_reducible rfl
@[simp] theorem sendCommand_admission (s : State) (X : LineId) (e : Entry) :
    (s.sendCommand X e).admission = s.admission := by unfold State.sendCommand; (try dsimp only); (repeat' split) <;> first | (simp; done) | with_reducible rfl
@[simp] theorem sendCommand_halt (s : State) (X : LineId) (e : Entry) :
    (s.sendCommand X e).halt = s.halt := by unfold State.sendCommand; (try dsimp only); (repeat' split) <;> first | (simp; done) | with_reducible rfl
@[simp] theorem sendCommand_link (s : State) (X : LineId) (e : Entry) :
    (s.sendCommand X e).link = s.link := by unfold State.sendCommand; (try dsimp only); (repeat' split) <;> first | (simp; done) | with_reducible rfl
@[simp] theorem sendCommand_choices (s : State) (X : LineId) (e : Entry) :
    (s.sendCommand X e).choices = s.choices := by unfold State.sendCommand; (try dsimp only); (repeat' split) <;> first | (simp; done) | with_reducible rfl
@[simp] theorem sendCommand_pending (s : State) (X : LineId) (e : Entry) :
    (s.sendCommand X e).pending = s.pending := by unfold State.sendCommand; (try dsimp only); (repeat' split) <;> first | (simp; done) | with_reducible rfl
@[simp] theorem beginCommand_cars (s : State) (X : LineId) :
    (s.beginCommand X).cars = s.cars := by unfold State.beginCommand; (try dsimp only); (repeat' split) <;> first | (simp; done) | with_reducible rfl
@[simp] theorem beginCommand_gates (s : State) (X : LineId) :
    (s.beginCommand X).gates = s.gates := by unfold State.beginCommand; (try dsimp only); (repeat' split) <;> first | (simp; done) | with_reducible rfl
@[simp] theorem beginCommand_zones (s : State) (X : LineId) :
    (s.beginCommand X).zones = s.zones := by unfold State.beginCommand; (try dsimp only); (repeat' split) <;> first | (simp; done) | with_reducible rfl
@[simp] theorem beginCommand_way (s : State) (X : LineId) :
    (s.beginCommand X).way = s.way := by unfold State.beginCommand; (try dsimp only); (repeat' split) <;> first | (simp; done) | with_reducible rfl
@[simp] theorem beginCommand_asks (s : State) (X : LineId) :
    (s.beginCommand X).asks = s.asks := by unfold State.beginCommand; (try dsimp only); (repeat' split) <;> first | (simp; done) | with_reducible rfl
@[simp] theorem beginCommand_admission (s : State) (X : LineId) :
    (s.beginCommand X).admission = s.admission := by unfold State.beginCommand; (try dsimp only); (repeat' split) <;> first | (simp; done) | with_reducible rfl
@[simp] theorem beginCommand_halt (s : State) (X : LineId) :
    (s.beginCommand X).halt = s.halt := by unfold State.beginCommand; (try dsimp only); (repeat' split) <;> first | (simp; done) | with_reducible rfl
@[simp] theorem beginCommand_link (s : State) (X : LineId) :
    (s.beginCommand X).link = s.link := by unfold State.beginCommand; (try dsimp only); (repeat' split) <;> first | (simp; done) | with_reducible rfl
@[simp] theorem beginCommand_choices (s : State) (X : LineId) :
    (s.beginCommand X).choices = s.choices := by unfold State.beginCommand; (try dsimp only); (repeat' split) <;> first | (simp; done) | with_reducible rfl
@[simp] theorem beginCommand_pending (s : State) (X : LineId) :
    (s.beginCommand X).pending = s.pending := by unfold State.beginCommand; (try dsimp only); (repeat' split) <;> first | (simp; done) | with_reducible rfl
@[simp] theorem beginJoin_cars (s : State) (X : LineId) :
    (s.beginJoin X).cars = s.cars := by unfold State.beginJoin; (try dsimp only); (repeat' split) <;> first | (simp; done) | with_reducible rfl
@[simp] theorem beginJoin_queue (s : State) (X : LineId) :
    (s.beginJoin X).queue = s.queue := by unfold State.beginJoin; (try dsimp only); (repeat' split) <;> first | (simp; done) | with_reducible rfl
@[simp] theorem beginJoin_gates (s : State) (X : LineId) :
    (s.beginJoin X).gates = s.gates := by unfold State.beginJoin; (try dsimp only); (repeat' split) <;> first | (simp; done) | with_reducible rfl
@[simp] theorem beginJoin_zones (s : State) (X : LineId) :
    (s.beginJoin X).zones = s.zones := by unfold State.beginJoin; (try dsimp only); (repeat' split) <;> first | (simp; done) | with_reducible rfl
@[simp] theorem beginJoin_way (s : State) (X : LineId) :
    (s.beginJoin X).way = s.way := by unfold State.beginJoin; (try dsimp only); (repeat' split) <;> first | (simp; done) | with_reducible rfl
@[simp] theorem beginJoin_asks (s : State) (X : LineId) :
    (s.beginJoin X).asks = s.asks := by unfold State.beginJoin; (try dsimp only); (repeat' split) <;> first | (simp; done) | with_reducible rfl
@[simp] theorem beginJoin_admission (s : State) (X : LineId) :
    (s.beginJoin X).admission = s.admission := by unfold State.beginJoin; (try dsimp only); (repeat' split) <;> first | (simp; done) | with_reducible rfl
@[simp] theorem beginJoin_halt (s : State) (X : LineId) :
    (s.beginJoin X).halt = s.halt := by unfold State.beginJoin; (try dsimp only); (repeat' split) <;> first | (simp; done) | with_reducible rfl
@[simp] theorem beginJoin_link (s : State) (X : LineId) :
    (s.beginJoin X).link = s.link := by unfold State.beginJoin; (try dsimp only); (repeat' split) <;> first | (simp; done) | with_reducible rfl
@[simp] theorem beginJoin_choices (s : State) (X : LineId) :
    (s.beginJoin X).choices = s.choices := by unfold State.beginJoin; (try dsimp only); (repeat' split) <;> first | (simp; done) | with_reducible rfl
@[simp] theorem beginJoin_pending (s : State) (X : LineId) :
    (s.beginJoin X).pending = s.pending := by unfold State.beginJoin; (try dsimp only); (repeat' split) <;> first | (simp; done) | with_reducible rfl
@[simp] theorem takeResult_zones (s : State) (X : LineId) (q : PollSlot) (c : SlotClass) :
    (s.takeResult X q c).zones = s.zones := by cases c <;> simp [State.takeResult]
@[simp] theorem takeResult_way (s : State) (X : LineId) (q : PollSlot) (c : SlotClass) :
    (s.takeResult X q c).way = s.way := by cases c <;> simp [State.takeResult]
@[simp] theorem takeResult_asks (s : State) (X : LineId) (q : PollSlot) (c : SlotClass) :
    (s.takeResult X q c).asks = s.asks := by cases c <;> simp [State.takeResult]
@[simp] theorem takeResult_admission (s : State) (X : LineId) (q : PollSlot) (c : SlotClass) :
    (s.takeResult X q c).admission = s.admission := by cases c <;> simp [State.takeResult]
@[simp] theorem takeResult_halt (s : State) (X : LineId) (q : PollSlot) (c : SlotClass) :
    (s.takeResult X q c).halt = s.halt := by cases c <;> simp [State.takeResult]
@[simp] theorem takeResult_pending (s : State) (X : LineId) (q : PollSlot) (c : SlotClass) :
    (s.takeResult X q c).pending = s.pending := by cases c <;> simp [State.takeResult]
@[simp] theorem endPoll_zones (s : State) (X : LineId) (q : PollSlot) (w : Nat) (b : Bits) :
    (s.endPoll X q w b).zones = s.zones := by unfold State.endPoll; (try dsimp only); (repeat' split) <;> first | (simp; done) | with_reducible rfl
@[simp] theorem endPoll_way (s : State) (X : LineId) (q : PollSlot) (w : Nat) (b : Bits) :
    (s.endPoll X q w b).way = s.way := by unfold State.endPoll; (try dsimp only); (repeat' split) <;> first | (simp; done) | with_reducible rfl
@[simp] theorem endPoll_asks (s : State) (X : LineId) (q : PollSlot) (w : Nat) (b : Bits) :
    (s.endPoll X q w b).asks = s.asks := by unfold State.endPoll; (try dsimp only); (repeat' split) <;> first | (simp; done) | with_reducible rfl
@[simp] theorem endPoll_admission (s : State) (X : LineId) (q : PollSlot) (w : Nat) (b : Bits) :
    (s.endPoll X q w b).admission = s.admission := by unfold State.endPoll; (try dsimp only); (repeat' split) <;> first | (simp; done) | with_reducible rfl
@[simp] theorem endPoll_halt (s : State) (X : LineId) (q : PollSlot) (w : Nat) (b : Bits) :
    (s.endPoll X q w b).halt = s.halt := by unfold State.endPoll; (try dsimp only); (repeat' split) <;> first | (simp; done) | with_reducible rfl
@[simp] theorem endPoll_pending (s : State) (X : LineId) (q : PollSlot) (w : Nat) (b : Bits) :
    (s.endPoll X q w b).pending = s.pending := by unfold State.endPoll; (try dsimp only); (repeat' split) <;> first | (simp; done) | with_reducible rfl
@[simp] theorem closeSlot_zones (s : State) (X : LineId) :
    (s.closeSlot X).zones = s.zones := by unfold State.closeSlot; (try dsimp only); (repeat' split) <;> first | (simp; done) | with_reducible rfl
@[simp] theorem closeSlot_way (s : State) (X : LineId) :
    (s.closeSlot X).way = s.way := by unfold State.closeSlot; (try dsimp only); (repeat' split) <;> first | (simp; done) | with_reducible rfl
@[simp] theorem closeSlot_admission (s : State) (X : LineId) :
    (s.closeSlot X).admission = s.admission := by unfold State.closeSlot; (try dsimp only); (repeat' split) <;> first | (simp; done) | with_reducible rfl
@[simp] theorem closeSlot_halt (s : State) (X : LineId) :
    (s.closeSlot X).halt = s.halt := by unfold State.closeSlot; (try dsimp only); (repeat' split) <;> first | (simp; done) | with_reducible rfl
@[simp] theorem closeSlot_pending (s : State) (X : LineId) :
    (s.closeSlot X).pending = s.pending := by unfold State.closeSlot; (try dsimp only); (repeat' split) <;> first | (simp; done) | with_reducible rfl
@[simp] theorem finishPollSlot_zones (s : State) (X : LineId) (w : Nat) (b : Bits) :
    (s.finishPollSlot X w b).zones = s.zones := by unfold State.finishPollSlot; (try dsimp only); (repeat' split) <;> first | (simp; done) | with_reducible rfl
@[simp] theorem finishPollSlot_way (s : State) (X : LineId) (w : Nat) (b : Bits) :
    (s.finishPollSlot X w b).way = s.way := by unfold State.finishPollSlot; (try dsimp only); (repeat' split) <;> first | (simp; done) | with_reducible rfl
@[simp] theorem finishPollSlot_admission (s : State) (X : LineId) (w : Nat) (b : Bits) :
    (s.finishPollSlot X w b).admission = s.admission := by unfold State.finishPollSlot; (try dsimp only); (repeat' split) <;> first | (simp; done) | with_reducible rfl
@[simp] theorem finishPollSlot_halt (s : State) (X : LineId) (w : Nat) (b : Bits) :
    (s.finishPollSlot X w b).halt = s.halt := by unfold State.finishPollSlot; (try dsimp only); (repeat' split) <;> first | (simp; done) | with_reducible rfl
@[simp] theorem finishPollSlot_pending (s : State) (X : LineId) (w : Nat) (b : Bits) :
    (s.finishPollSlot X w b).pending = s.pending := by unfold State.finishPollSlot; (try dsimp only); (repeat' split) <;> first | (simp; done) | with_reducible rfl
@[simp] theorem finishJoinSlot_zones (s : State) (X : LineId) (w : Nat) (b : Bits) :
    (s.finishJoinSlot X w b).zones = s.zones := by unfold State.finishJoinSlot; (try dsimp only); (repeat' split) <;> first | (simp; done) | with_reducible rfl
@[simp] theorem finishJoinSlot_way (s : State) (X : LineId) (w : Nat) (b : Bits) :
    (s.finishJoinSlot X w b).way = s.way := by unfold State.finishJoinSlot; (try dsimp only); (repeat' split) <;> first | (simp; done) | with_reducible rfl
@[simp] theorem finishJoinSlot_admission (s : State) (X : LineId) (w : Nat) (b : Bits) :
    (s.finishJoinSlot X w b).admission = s.admission := by unfold State.finishJoinSlot; (try dsimp only); (repeat' split) <;> first | (simp; done) | with_reducible rfl
@[simp] theorem finishJoinSlot_halt (s : State) (X : LineId) (w : Nat) (b : Bits) :
    (s.finishJoinSlot X w b).halt = s.halt := by unfold State.finishJoinSlot; (try dsimp only); (repeat' split) <;> first | (simp; done) | with_reducible rfl
@[simp] theorem finishJoinSlot_pending (s : State) (X : LineId) (w : Nat) (b : Bits) :
    (s.finishJoinSlot X w b).pending = s.pending := by unfold State.finishJoinSlot; (try dsimp only); (repeat' split) <;> first | (simp; done) | with_reducible rfl
@[simp] theorem tick_cars (s : State) :
    (s.tick).cars = s.cars := by unfold State.tick; (try dsimp only); (repeat' split) <;> first | (simp; done) | with_reducible rfl
@[simp] theorem tick_queue (s : State) :
    (s.tick).queue = s.queue := by unfold State.tick; (try dsimp only); (repeat' split) <;> first | (simp; done) | with_reducible rfl
@[simp] theorem tick_gates (s : State) :
    (s.tick).gates = s.gates := by unfold State.tick; (try dsimp only); (repeat' split) <;> first | (simp; done) | with_reducible rfl
@[simp] theorem tick_zones (s : State) :
    (s.tick).zones = s.zones := by unfold State.tick; (try dsimp only); (repeat' split) <;> first | (simp; done) | with_reducible rfl
@[simp] theorem tick_way (s : State) :
    (s.tick).way = s.way := by unfold State.tick; (try dsimp only); (repeat' split) <;> first | (simp; done) | with_reducible rfl
@[simp] theorem tick_asks (s : State) :
    (s.tick).asks = s.asks := by unfold State.tick; (try dsimp only); (repeat' split) <;> first | (simp; done) | with_reducible rfl
@[simp] theorem tick_admission (s : State) :
    (s.tick).admission = s.admission := by unfold State.tick; (try dsimp only); (repeat' split) <;> first | (simp; done) | with_reducible rfl
@[simp] theorem tick_halt (s : State) :
    (s.tick).halt = s.halt := by unfold State.tick; (try dsimp only); (repeat' split) <;> first | (simp; done) | with_reducible rfl
@[simp] theorem tick_link (s : State) :
    (s.tick).link = s.link := by unfold State.tick; (try dsimp only); (repeat' split) <;> first | (simp; done) | with_reducible rfl
@[simp] theorem tick_choices (s : State) :
    (s.tick).choices = s.choices := by unfold State.tick; (try dsimp only); (repeat' split) <;> first | (simp; done) | with_reducible rfl
@[simp] theorem tick_pending (s : State) :
    (s.tick).pending = s.pending := by unfold State.tick; (try dsimp only); (repeat' split) <;> first | (simp; done) | with_reducible rfl

end Sys2Proof.Machine
end

