-- ==== Sys2Proof/Laws/Lines.lean ====
section
/-! SUPPORT. What each operation of the machine leaves alone in the two line engines: the operations that touch nothing of an
engine but its break-pending flag, and the operations that keep both line states. -/

namespace Sys2Proof.Machine

set_option linter.unusedTactic false
set_option linter.unreachableTactic false
set_option linter.unnecessarySeqFocus false
set_option linter.unusedSimpArgs false

theorem Engine.eq_of_unbroken {e f : Engine} (h : e.unbroken = f.unbroken) : e = { f with breakPending := e.breakPending } := by
  cases e; cases f; simp [Engine.unbroken] at h ⊢; exact h

/-- What an update of one engine keeps, it keeps of both. -/
theorem modEng_keeps {β : Type} {s : State} {X Y : LineId} {f : Engine → Engine} (_ : Unit) (F : Engine → β) (h : ∀ e, F (f e) = F e) :
    F ((s.modEng X f).eng Y) = F (s.eng Y) := by
  cases X <;> cases Y <;> first | exact h _ | rfl

/-- An update of one engine that keeps its line state keeps both line states. -/
@[simp] theorem modEng_lineState (s : State) (X Y : LineId) (f : Engine → Engine) (h : ∀ e, (f e).state = e.state) :
    ((s.modEng X f).eng Y).state = (s.eng Y).state := modEng_keeps () Engine.state h

@[simp] theorem disengage_eng (s : State) (X Y : LineId) : (s.disengage X).eng Y = s.eng Y := by cases Y <;> rfl
@[simp] theorem modEng_countIdle_state (s : State) (X Y : LineId) :
    ((s.modEng X Engine.countIdle).eng Y).state = (s.eng Y).state := modEng_keeps () Engine.state (fun _ => rfl)
@[simp] theorem modEng_tick_state (s : State) (X Y : LineId) :
    ((s.modEng X Engine.tick).eng Y).state = (s.eng Y).state := modEng_keeps () Engine.state (fun _ => rfl)

@[simp] theorem foldl_notify_eng {α : Type} (f : α → Notice) (l : List α) (s : State) (Y : LineId) :
    (l.foldl (fun s a => s.notify (f a)) s).eng Y = s.eng Y := by cases Y <;> simp

@[simp] theorem breakLine_car (s : State) (X : LineId) (j : CarIx) : (s.breakLine X).car j = s.car j := car_congr (breakLine_cars ..) j
@[simp] theorem breakLine_gate (s : State) (X : LineId) (g : Fin 8) : (s.breakLine X).gate g = s.gate g := gate_congr (breakLine_gates ..) g
@[simp] theorem breakHome_car (s : State) (h : Home) (j : CarIx) : (s.breakHome h).car j = s.car j := car_congr (breakHome_cars ..) j
@[simp] theorem breakHome_gate (s : State) (h : Home) (g : Fin 8) : (s.breakHome h).gate g = s.gate g := gate_congr (breakHome_gates ..) g
@[simp] theorem judgeLine_car (s : State) (p : Entry → Bool) (X : LineId) (j : CarIx) : (s.judgeLine p X).car j = s.car j := car_congr (judgeLine_cars ..) j
@[simp] theorem judgeLine_gate (s : State) (p : Entry → Bool) (X : LineId) (g : Fin 8) : (s.judgeLine p X).gate g = s.gate g := gate_congr (judgeLine_gates ..) g
@[simp] theorem judge_car (s : State) (p : Entry → Bool) (j : CarIx) : (s.judge p).car j = s.car j := car_congr (judge_cars ..) j
@[simp] theorem judge_gate (s : State) (p : Entry → Bool) (g : Fin 8) : (s.judge p).gate g = s.gate g := gate_congr (judge_gates ..) g
@[simp] theorem startListening_gate (s : State) (i : CarIx) (g : Fin 8) : (s.startListening i).gate g = s.gate g := gate_congr (startListening_gates ..) g
@[simp] theorem wake_gate (s : State) (i : CarIx) (g : Fin 8) : (s.wake i).gate g = s.gate g := gate_congr (wake_gates ..) g
@[simp] theorem moveToTail_eng (s : State) (p : Entry → Bool) (l : Fin 8) (Y : LineId) : (s.moveToTail p l).eng Y = s.eng Y := eng_congr (moveToTail_lineA ..) (moveToTail_lineB ..) Y
@[simp] theorem moveToTail_car (s : State) (p : Entry → Bool) (l : Fin 8) (j : CarIx) : (s.moveToTail p l).car j = s.car j := car_congr (moveToTail_cars ..) j
@[simp] theorem moveToTail_gate (s : State) (p : Entry → Bool) (l : Fin 8) (g : Fin 8) : (s.moveToTail p l).gate g = s.gate g := gate_congr (moveToTail_gates ..) g
@[simp] theorem ensureDrive_car (s : State) (i : CarIx) (u : Bool) (j : CarIx) : (s.ensureDrive i u).car j = s.car j := car_congr (ensureDrive_cars ..) j
@[simp] theorem ensureDrive_gate (s : State) (i : CarIx) (u : Bool) (g : Fin 8) : (s.ensureDrive i u).gate g = s.gate g := gate_congr (ensureDrive_gates ..) g
@[simp] theorem offerAssign_car (s : State) (a : Assign) (j : CarIx) : (s.offerAssign a).car j = s.car j := car_congr (offerAssign_cars ..) j
@[simp] theorem offerAssign_gate (s : State) (a : Assign) (g : Fin 8) : (s.offerAssign a).gate g = s.gate g := gate_congr (offerAssign_gates ..) g
@[simp] theorem queueText_gate (s : State) (p : Placement) (i : CarIx) (t : Text) (g : Fin 8) : (s.queueText p i t).gate g = s.gate g := gate_congr (queueText_gates ..) g
@[simp] theorem enterText_gate (s : State) (p : Placement) (i : CarIx) (t : Text) (g : Fin 8) : (s.enterText p i t).gate g = s.gate g := gate_congr (enterText_gates ..) g
@[simp] theorem unseat_car (s : State) (X : LineId) (p : CarIx → Bool) (j : CarIx) : (s.unseat X p).car j = s.car j := car_congr (unseat_cars ..) j
@[simp] theorem unseat_gate (s : State) (X : LineId) (p : CarIx → Bool) (g : Fin 8) : (s.unseat X p).gate g = s.gate g := gate_congr (unseat_gates ..) g
@[simp] theorem engage_eng (s : State) (X : LineId) (p : Entry → Bool) (Y : LineId) : (s.engage X p).eng Y = s.eng Y := eng_congr (engage_lineA ..) (engage_lineB ..) Y
@[simp] theorem engage_car (s : State) (X : LineId) (p : Entry → Bool) (j : CarIx) : (s.engage X p).car j = s.car j := car_congr (engage_cars ..) j
@[simp] theorem engage_gate (s : State) (X : LineId) (p : Entry → Bool) (g : Fin 8) : (s.engage X p).gate g = s.gate g := gate_congr (engage_gates ..) g
@[simp] theorem returnPoll_eng (s : State) (X : LineId) (Y : LineId) : (s.returnPoll X).eng Y = s.eng Y := eng_congr (returnPoll_lineA ..) (returnPoll_lineB ..) Y
@[simp] theorem returnPoll_car (s : State) (X : LineId) (j : CarIx) : (s.returnPoll X).car j = s.car j := car_congr (returnPoll_cars ..) j
@[simp] theorem returnPoll_gate (s : State) (X : LineId) (g : Fin 8) : (s.returnPoll X).gate g = s.gate g := gate_congr (returnPoll_gates ..) g
@[simp] theorem recompute_gate (s : State) (i : CarIx) (g : Fin 8) : (s.recompute i).gate g = s.gate g := gate_congr (recompute_gates ..) g
@[simp] theorem applyHeadCap_gate (s : State) (i : CarIx) (c : Nat) (g : Fin 8) : (s.applyHeadCap i c).gate g = s.gate g := gate_congr (applyHeadCap_gates ..) g
@[simp] theorem takeLimit_gate (s : State) (i : CarIx) (l : Nat) (g : Fin 8) : (s.takeLimit i l).gate g = s.gate g := gate_congr (takeLimit_gates ..) g
@[simp] theorem evaluateGaps_gate (s : State) (g : Fin 8) : (s.evaluateGaps).gate g = s.gate g := gate_congr (evaluateGaps_gates ..) g
@[simp] theorem setContext_car (s : State) (X : LineId) (k : Fin 6) (c : Ctx) (j : CarIx) : (s.setContext X k c).car j = s.car j := car_congr (setContext_cars ..) j
@[simp] theorem setContext_gate (s : State) (X : LineId) (k : Fin 6) (c : Ctx) (g : Fin 8) : (s.setContext X k c).gate g = s.gate g := gate_congr (setContext_gates ..) g
@[simp] theorem park_eng (s : State) (X : LineId) (k : Fin 6) (Y : LineId) : (s.park X k).eng Y = s.eng Y := eng_congr (park_lineA ..) (park_lineB ..) Y
@[simp] theorem park_gate (s : State) (X : LineId) (k : Fin 6) (g : Fin 8) : (s.park X k).gate g = s.gate g := gate_congr (park_gates ..) g
@[simp] theorem parkAndFree_gate (s : State) (X : LineId) (k : Fin 6) (g : Fin 8) : (s.parkAndFree X k).gate g = s.gate g := gate_congr (parkAndFree_gates ..) g
@[simp] theorem releaseContext_gate (s : State) (X : LineId) (i : CarIx) (g : Fin 8) : (s.releaseContext X i).gate g = s.gate g := gate_congr (releaseContext_gates ..) g
@[simp] theorem forgetContexts_gate (s : State) (i : CarIx) (g : Fin 8) : (s.forgetContexts i).gate g = s.gate g := gate_congr (forgetContexts_gates ..) g
@[simp] theorem freeAllContexts_gate (s : State) (X : LineId) (g : Fin 8) : (s.freeAllContexts X).gate g = s.gate g := gate_congr (freeAllContexts_gates ..) g
@[simp] theorem obtainContext_gate (s : State) (X : LineId) (i : CarIx) (k : Fin 6) (g : Fin 8) : (s.obtainContext X i k).gate g = s.gate g := gate_congr (obtainContext_gates ..) g
@[simp] theorem modContextOf_car (s : State) (X : LineId) (i : CarIx) (f : Ctx → Ctx) (j : CarIx) : (s.modContextOf X i f).car j = s.car j := car_congr (modContextOf_cars ..) j
@[simp] theorem modContextOf_gate (s : State) (X : LineId) (i : CarIx) (f : Ctx → Ctx) (g : Fin 8) : (s.modContextOf X i f).gate g = s.gate g := gate_congr (modContextOf_gates ..) g
@[simp] theorem growUncertainty_eng (s : State) (X : LineId) (Y : LineId) : (s.growUncertainty X).eng Y = s.eng Y := eng_congr (growUncertainty_lineA ..) (growUncertainty_lineB ..) Y
@[simp] theorem growUncertainty_gate (s : State) (X : LineId) (g : Fin 8) : (s.growUncertainty X).gate g = s.gate g := gate_congr (growUncertainty_gates ..) g
@[simp] theorem markPoll_car (s : State) (i : CarIx) (f : PollFate) (j : CarIx) : (s.markPoll i f).car j = s.car j := car_congr (markPoll_cars ..) j
@[simp] theorem markPoll_gate (s : State) (i : CarIx) (f : PollFate) (g : Fin 8) : (s.markPoll i f).gate g = s.gate g := gate_congr (markPoll_gates ..) g
@[simp] theorem leaveLine_car (s : State) (i : CarIx) (X : LineId) (j : CarIx) : (s.leaveLine i X).car j = s.car j := car_congr (leaveLine_cars ..) j
@[simp] theorem leaveLine_gate (s : State) (i : CarIx) (X : LineId) (g : Fin 8) : (s.leaveLine i X).gate g = s.gate g := gate_congr (leaveLine_gates ..) g
@[simp] theorem homedOn_car (s : State) (i : CarIx) (X : LineId) (j : CarIx) : (s.homedOn i X).car j = s.car j := car_congr (homedOn_cars ..) j
@[simp] theorem homedOn_gate (s : State) (i : CarIx) (X : LineId) (g : Fin 8) : (s.homedOn i X).gate g = s.gate g := gate_congr (homedOn_gates ..) g
@[simp] theorem changeHome_gate (s : State) (i : CarIx) (h : Home) (g : Fin 8) : (s.changeHome i h).gate g = s.gate g := gate_congr (changeHome_gates ..) g
@[simp] theorem duePoll_eng (s : State) (i : CarIx) (Y : LineId) : (s.duePoll i).eng Y = s.eng Y := eng_congr (duePoll_lineA ..) (duePoll_lineB ..) Y
@[simp] theorem duePoll_gate (s : State) (i : CarIx) (g : Fin 8) : (s.duePoll i).gate g = s.gate g := gate_congr (duePoll_gates ..) g
@[simp] theorem generatePolls_eng (s : State) (X : LineId) (Y : LineId) : (s.generatePolls X).eng Y = s.eng Y := eng_congr (generatePolls_lineA ..) (generatePolls_lineB ..) Y
@[simp] theorem generatePolls_gate (s : State) (X : LineId) (g : Fin 8) : (s.generatePolls X).gate g = s.gate g := gate_congr (generatePolls_gates ..) g
@[simp] theorem countAsks_eng (s : State) (X : LineId) (Y : LineId) : (s.countAsks X).eng Y = s.eng Y := eng_congr (countAsks_lineA ..) (countAsks_lineB ..) Y
@[simp] theorem countAsks_car (s : State) (X : LineId) (j : CarIx) : (s.countAsks X).car j = s.car j := car_congr (countAsks_cars ..) j
@[simp] theorem countAsks_gate (s : State) (X : LineId) (g : Fin 8) : (s.countAsks X).gate g = s.gate g := gate_congr (countAsks_gates ..) g
@[simp] theorem fillSlot_gate (s : State) (i : CarIx) (u : Nat) (X : LineId) (g : Fin 8) : (s.fillSlot i u X).gate g = s.gate g := gate_congr (fillSlot_gates ..) g
@[simp] theorem admitUnit_gate (s : State) (u : Nat) (X : LineId) (g : Fin 8) : ((s.admitUnit u X).1).gate g = s.gate g := gate_congr (admitUnit_gates ..) g
@[simp] theorem readmit_gate (s : State) (i : CarIx) (X : LineId) (g : Fin 8) : (s.readmit i X).gate g = s.gate g := gate_congr (readmit_gates ..) g
@[simp] theorem takeJoin_gate (s : State) (u : Nat) (X : LineId) (g : Fin 8) : (s.takeJoin u X).gate g = s.gate g := gate_congr (takeJoin_gates ..) g
@[simp] theorem hearJoin_gate (s : State) (u : Nat) (X : LineId) (g : Fin 8) : (s.hearJoin u X).gate g = s.gate g := gate_congr (hearJoin_gates ..) g
@[simp] theorem takeReport_eng (s : State) (X : LineId) (i : CarIx) (r : Reply) (Y : LineId) : (s.takeReport X i r).eng Y = s.eng Y := eng_congr (takeReport_lineA ..) (takeReport_lineB ..) Y
@[simp] theorem takeReport_gate (s : State) (X : LineId) (i : CarIx) (r : Reply) (g : Fin 8) : (s.takeReport X i r).gate g = s.gate g := gate_congr (takeReport_gates ..) g
@[simp] theorem locate_eng (s : State) (X : LineId) (i : CarIx) (m : Nat) (b : Bool) (Y : LineId) : (s.locate X i m b).eng Y = s.eng Y := eng_congr (locate_lineA ..) (locate_lineB ..) Y
@[simp] theorem locate_gate (s : State) (X : LineId) (i : CarIx) (m : Nat) (b : Bool) (g : Fin 8) : (s.locate X i m b).gate g = s.gate g := gate_congr (locate_gates ..) g
@[simp] theorem rehome_gate (s : State) (i : CarIx) (g : Fin 8) : (s.rehome i).gate g = s.gate g := gate_congr (rehome_gates ..) g
@[simp] theorem confirmDrive_gate (s : State) (i : CarIx) (e : Nat) (g : Fin 8) : (s.confirmDrive i e).gate g = s.gate g := gate_congr (confirmDrive_gates ..) g
@[simp] theorem acknowledge_gate (s : State) (i : CarIx) (r : Reply) (g : Fin 8) : (s.acknowledge i r).gate g = s.gate g := gate_congr (acknowledge_gates ..) g
@[simp] theorem checkRelease_gate (s : State) (i : CarIx) (e : Nat) (g : Fin 8) : (s.checkRelease i e).gate g = s.gate g := gate_congr (checkRelease_gates ..) g
@[simp] theorem resolveGrant_gate (s : State) (X : LineId) (i : CarIx) (n : Nat) (g : Fin 8) : (s.resolveGrant X i n).gate g = s.gate g := gate_congr (resolveGrant_gates ..) g
@[simp] theorem abandonSlot_car (s : State) (X : LineId) (j : CarIx) : (s.abandonSlot X).car j = s.car j := car_congr (abandonSlot_cars ..) j
@[simp] theorem abandonSlot_gate (s : State) (X : LineId) (g : Fin 8) : (s.abandonSlot X).gate g = s.gate g := gate_congr (abandonSlot_gates ..) g
@[simp] theorem changeLineState_car (s : State) (X : LineId) (st : LineState) (j : CarIx) : (s.changeLineState X st).car j = s.car j := car_congr (changeLineState_cars ..) j
@[simp] theorem changeLineState_gate (s : State) (X : LineId) (st : LineState) (g : Fin 8) : (s.changeLineState X st).gate g = s.gate g := gate_congr (changeLineState_gates ..) g
@[simp] theorem startEngine_car (s : State) (X : LineId) (k : StartKind) (j : CarIx) : (s.startEngine X k).car j = s.car j := car_congr (startEngine_cars ..) j
@[simp] theorem startEngine_gate (s : State) (X : LineId) (k : StartKind) (g : Fin 8) : (s.startEngine X k).gate g = s.gate g := gate_congr (startEngine_gates ..) g
@[simp] theorem startEffect_gate (s : State) (X : LineId) (k : StartKind) (e : StartEffect) (g : Fin 8) : (s.startEffect X k e).gate g = s.gate g := gate_congr (startEffect_gates ..) g
@[simp] theorem startCycle_gate (s : State) (X : LineId) (k : StartKind) (g : Fin 8) : (s.startCycle X k).gate g = s.gate g := gate_congr (startCycle_gates ..) g
@[simp] theorem clearBurst_car (s : State) (X : LineId) (j : CarIx) : (s.clearBurst X).car j = s.car j := car_congr (clearBurst_cars ..) j
@[simp] theorem clearBurst_gate (s : State) (X : LineId) (g : Fin 8) : (s.clearBurst X).gate g = s.gate g := gate_congr (clearBurst_gates ..) g
@[simp] theorem noteTraffic_car (s : State) (X : LineId) (j : CarIx) : (s.noteTraffic X).car j = s.car j := car_congr (noteTraffic_cars ..) j
@[simp] theorem noteTraffic_gate (s : State) (X : LineId) (g : Fin 8) : (s.noteTraffic X).gate g = s.gate g := gate_congr (noteTraffic_gates ..) g
@[simp] theorem markDone_car (s : State) (X : LineId) (j : CarIx) : (s.markDone X).car j = s.car j := car_congr (markDone_cars ..) j
@[simp] theorem markDone_gate (s : State) (X : LineId) (g : Fin 8) : (s.markDone X).gate g = s.gate g := gate_congr (markDone_gates ..) g
@[simp] theorem wordSent_gate (s : State) (X : LineId) (w : DriveWord) (g : Fin 8) : (s.wordSent X w).gate g = s.gate g := gate_congr (wordSent_gates ..) g
@[simp] theorem fragmentSent_eng (s : State) (X : LineId) (Y : LineId) : (s.fragmentSent X).eng Y = s.eng Y := eng_congr (fragmentSent_lineA ..) (fragmentSent_lineB ..) Y
@[simp] theorem fragmentSent_gate (s : State) (X : LineId) (g : Fin 8) : (s.fragmentSent X).gate g = s.gate g := gate_congr (fragmentSent_gates ..) g
@[simp] theorem assignSent_eng (s : State) (X : LineId) (Y : LineId) : (s.assignSent X).eng Y = s.eng Y := eng_congr (assignSent_lineA ..) (assignSent_lineB ..) Y
@[simp] theorem assignSent_car (s : State) (X : LineId) (j : CarIx) : (s.assignSent X).car j = s.car j := car_congr (assignSent_cars ..) j
@[simp] theorem assignSent_gate (s : State) (X : LineId) (g : Fin 8) : (s.assignSent X).gate g = s.gate g := gate_congr (assignSent_gates ..) g
@[simp] theorem driveDone_gate (s : State) (X : LineId) (w : DriveWord) (g : Fin 8) : (s.driveDone X w).gate g = s.gate g := gate_congr (driveDone_gates ..) g
@[simp] theorem textDone_gate (s : State) (X : LineId) (g : Fin 8) : (s.textDone X).gate g = s.gate g := gate_congr (textDone_gates ..) g
@[simp] theorem assignDone_car (s : State) (X : LineId) (j : CarIx) : (s.assignDone X).car j = s.car j := car_congr (assignDone_cars ..) j
@[simp] theorem assignDone_gate (s : State) (X : LineId) (g : Fin 8) : (s.assignDone X).gate g = s.gate g := gate_congr (assignDone_gates ..) g
@[simp] theorem pollDone_gate (s : State) (X : LineId) (q : PollSlot) (w : Option DriveWord) (g : Fin 8) : (s.pollDone X q w).gate g = s.gate g := gate_congr (pollDone_gates ..) g
@[simp] theorem finishBurst_gate (s : State) (X : LineId) (g : Fin 8) : (s.finishBurst X).gate g = s.gate g := gate_congr (finishBurst_gates ..) g
@[simp] theorem beginSlot_car (s : State) (X : LineId) (a : AirSlot) (j : CarIx) : (s.beginSlot X a).car j = s.car j := car_congr (beginSlot_cars ..) j
@[simp] theorem beginSlot_gate (s : State) (X : LineId) (a : AirSlot) (g : Fin 8) : (s.beginSlot X a).gate g = s.gate g := gate_congr (beginSlot_gates ..) g
@[simp] theorem sendPoll_gate (s : State) (X : LineId) (i : CarIx) (g : Fin 8) : (s.sendPoll X i).gate g = s.gate g := gate_congr (sendPoll_gates ..) g
@[simp] theorem beginPoll_gate (s : State) (X : LineId) (g : Fin 8) : (s.beginPoll X).gate g = s.gate g := gate_congr (beginPoll_gates ..) g
@[simp] theorem sendCommand_car (s : State) (X : LineId) (e : Entry) (j : CarIx) : (s.sendCommand X e).car j = s.car j := car_congr (sendCommand_cars ..) j
@[simp] theorem sendCommand_gate (s : State) (X : LineId) (e : Entry) (g : Fin 8) : (s.sendCommand X e).gate g = s.gate g := gate_congr (sendCommand_gates ..) g
@[simp] theorem beginCommand_car (s : State) (X : LineId) (j : CarIx) : (s.beginCommand X).car j = s.car j := car_congr (beginCommand_cars ..) j
@[simp] theorem beginCommand_gate (s : State) (X : LineId) (g : Fin 8) : (s.beginCommand X).gate g = s.gate g := gate_congr (beginCommand_gates ..) g
@[simp] theorem beginJoin_car (s : State) (X : LineId) (j : CarIx) : (s.beginJoin X).car j = s.car j := car_congr (beginJoin_cars ..) j
@[simp] theorem beginJoin_gate (s : State) (X : LineId) (g : Fin 8) : (s.beginJoin X).gate g = s.gate g := gate_congr (beginJoin_gates ..) g
@[simp] theorem tick_car (s : State) (j : CarIx) : (s.tick).car j = s.car j := car_congr (tick_cars ..) j
@[simp] theorem tick_gate (s : State) (g : Fin 8) : (s.tick).gate g = s.gate g := gate_congr (tick_gates ..) g
@[simp] theorem breakLine_unbroken (s : State) (X : LineId) (Y : LineId) :
    ((s.breakLine X).eng Y).unbroken = ((s.eng Y).unbroken) := by unfold State.breakLine; first | (split <;> first | exact modEng_keeps () (Engine.unbroken) (fun _ => rfl) | rfl) | exact modEng_keeps () (Engine.unbroken) (fun _ => rfl)
@[simp] theorem breakHome_unbroken (s : State) (h : Home) (Y : LineId) :
    ((s.breakHome h).eng Y).unbroken = ((s.eng Y).unbroken) := by unfold State.breakHome; (try dsimp only); (repeat' split) <;> first | (simp; done) | with_reducible rfl
@[simp] theorem judgeLine_unbroken (s : State) (p : Entry → Bool) (X : LineId) (Y : LineId) :
    ((s.judgeLine p X).eng Y).unbroken = ((s.eng Y).unbroken) := by unfold State.judgeLine; (try dsimp only); (repeat' split) <;> first | (simp; done) | with_reducible rfl
@[simp] theorem judge_unbroken (s : State) (p : Entry → Bool) (Y : LineId) :
    ((s.judge p).eng Y).unbroken = ((s.eng Y).unbroken) := by unfold State.judge; (try dsimp only); (repeat' split) <;> first | (simp; done) | with_reducible rfl
@[simp] theorem startListening_unbroken (s : State) (i : CarIx) (Y : LineId) :
    ((s.startListening i).eng Y).unbroken = ((s.eng Y).unbroken) := by unfold State.startListening; (try dsimp only); (repeat' split) <;> first | (simp; done) | with_reducible rfl
@[simp] theorem wake_unbroken (s : State) (i : CarIx) (Y : LineId) :
    ((s.wake i).eng Y).unbroken = ((s.eng Y).unbroken) := by unfold State.wake; (try dsimp only); (repeat' split) <;> first | (simp; done) | with_reducible rfl
@[simp] theorem ensureDrive_unbroken (s : State) (i : CarIx) (u : Bool) (Y : LineId) :
    ((s.ensureDrive i u).eng Y).unbroken = ((s.eng Y).unbroken) := by unfold State.ensureDrive; (try dsimp only); (repeat' split) <;> first | (simp; done) | with_reducible rfl
@[simp] theorem offerAssign_unbroken (s : State) (a : Assign) (Y : LineId) :
    ((s.offerAssign a).eng Y).unbroken = ((s.eng Y).unbroken) := by unfold State.offerAssign; (try dsimp only); (repeat' split) <;> first | (simp; done) | with_reducible rfl
@[simp] theorem queueText_unbroken (s : State) (p : Placement) (i : CarIx) (t : Text) (Y : LineId) :
    ((s.queueText p i t).eng Y).unbroken = ((s.eng Y).unbroken) := by unfold State.queueText; (try dsimp only); (repeat' split) <;> first | (simp; done) | with_reducible rfl
@[simp] theorem enterText_unbroken (s : State) (p : Placement) (i : CarIx) (t : Text) (Y : LineId) :
    ((s.enterText p i t).eng Y).unbroken = ((s.eng Y).unbroken) := by unfold State.enterText; (try dsimp only); (repeat' split) <;> first | (simp; done) | with_reducible rfl
@[simp] theorem unseat_unbroken (s : State) (X : LineId) (p : CarIx → Bool) (Y : LineId) :
    ((s.unseat X p).eng Y).unbroken = ((s.eng Y).unbroken) := by unfold State.unseat; (try dsimp only); (repeat' split) <;> first | (simp; done) | with_reducible rfl
@[simp] theorem recompute_unbroken (s : State) (i : CarIx) (Y : LineId) :
    ((s.recompute i).eng Y).unbroken = ((s.eng Y).unbroken) := by unfold State.recompute; (try dsimp only); (repeat' split) <;> first | (simp; done) | with_reducible rfl
@[simp] theorem applyHeadCap_unbroken (s : State) (i : CarIx) (c : Nat) (Y : LineId) :
    ((s.applyHeadCap i c).eng Y).unbroken = ((s.eng Y).unbroken) := by unfold State.applyHeadCap; (try dsimp only); (repeat' split) <;> first | (simp; done) | with_reducible rfl
@[simp] theorem takeLimit_unbroken (s : State) (i : CarIx) (l : Nat) (Y : LineId) :
    ((s.takeLimit i l).eng Y).unbroken = ((s.eng Y).unbroken) := by unfold State.takeLimit; (try dsimp only); (repeat' split) <;> first | (simp; done) | with_reducible rfl
@[simp] theorem evaluateGaps_unbroken (s : State) (Y : LineId) :
    ((s.evaluateGaps).eng Y).unbroken = ((s.eng Y).unbroken) := by unfold State.evaluateGaps; exact foldl_frame (fun s => (s.eng Y).unbroken) _ (fun s i => by split <;> simp) _ _
@[simp] theorem openGate_unbroken (s : State) (g : Fin 8) (Y : LineId) :
    (((s.openGate g).1).eng Y).unbroken = ((s.eng Y).unbroken) := by unfold State.openGate; (try dsimp only); (repeat' split) <;> first | (simp; done) | with_reducible rfl
@[simp] theorem sourceEvent_unbroken (s : State) (src : Source) (Y : LineId) :
    ((s.sourceEvent src).eng Y).unbroken = ((s.eng Y).unbroken) := by unfold State.sourceEvent; (try dsimp only); (repeat' split) <;> simp [foldl_frame (fun s => (s.eng Y).unbroken)]
@[simp] theorem evaluateZones_unbroken (s : State) (i : CarIx) (Y : LineId) :
    ((s.evaluateZones i).eng Y).unbroken = ((s.eng Y).unbroken) := by unfold State.evaluateZones; (try dsimp only); (repeat' split) <;> simp [foldl_frame (fun s => (s.eng Y).unbroken)]
@[simp] theorem leaveLine_unbroken (s : State) (i : CarIx) (X : LineId) (Y : LineId) :
    ((s.leaveLine i X).eng Y).unbroken = ((s.eng Y).unbroken) := by unfold State.leaveLine; (try dsimp only); (repeat' split) <;> first | (simp; done) | with_reducible rfl
@[simp] theorem homedOn_unbroken (s : State) (i : CarIx) (X : LineId) (Y : LineId) :
    ((s.homedOn i X).eng Y).unbroken = ((s.eng Y).unbroken) := by unfold State.homedOn; (try dsimp only); (repeat' split) <;> first | (simp; done) | with_reducible rfl
@[simp] theorem fillSlot_unbroken (s : State) (i : CarIx) (u : Nat) (X : LineId) (Y : LineId) :
    ((s.fillSlot i u X).eng Y).unbroken = ((s.eng Y).unbroken) := by unfold State.fillSlot; (try dsimp only); (repeat' split) <;> first | (simp; done) | with_reducible rfl
@[simp] theorem admitUnit_unbroken (s : State) (u : Nat) (X : LineId) (Y : LineId) :
    (((s.admitUnit u X).1).eng Y).unbroken = ((s.eng Y).unbroken) := by unfold State.admitUnit; (try dsimp only); (repeat' split) <;> first | (simp; done) | with_reducible rfl
@[simp] theorem confirmDrive_unbroken (s : State) (i : CarIx) (e : Nat) (Y : LineId) :
    ((s.confirmDrive i e).eng Y).unbroken = ((s.eng Y).unbroken) := by unfold State.confirmDrive; (try dsimp only); (repeat' split) <;> first | (simp; done) | with_reducible rfl
@[simp] theorem acknowledge_unbroken (s : State) (i : CarIx) (r : Reply) (Y : LineId) :
    ((s.acknowledge i r).eng Y).unbroken = ((s.eng Y).unbroken) := by unfold State.acknowledge; (try dsimp only); (repeat' split) <;> first | (simp; done) | with_reducible rfl
@[simp] theorem checkRelease_unbroken (s : State) (i : CarIx) (e : Nat) (Y : LineId) :
    ((s.checkRelease i e).eng Y).unbroken = ((s.eng Y).unbroken) := by unfold State.checkRelease; (try dsimp only); (repeat' split) <;> first | (simp; done) | with_reducible rfl
@[simp] theorem resolveGrant_unbroken (s : State) (X : LineId) (i : CarIx) (n : Nat) (Y : LineId) :
    ((s.resolveGrant X i n).eng Y).unbroken = ((s.eng Y).unbroken) := by unfold State.resolveGrant; (try dsimp only); (repeat' split) <;> first | (simp; done) | with_reducible rfl
@[simp] theorem wordSent_unbroken (s : State) (X : LineId) (w : DriveWord) (Y : LineId) :
    ((s.wordSent X w).eng Y).unbroken = ((s.eng Y).unbroken) := by unfold State.wordSent; (try dsimp only); (repeat' split) <;> first | (simp; done) | with_reducible rfl
@[simp] theorem breakLine_lineState (s : State) (X : LineId) (Y : LineId) :
    ((s.breakLine X).eng Y).state = ((s.eng Y).state) := by unfold State.breakLine; first | (split <;> first | exact modEng_keeps () (Engine.state) (fun _ => rfl) | rfl) | exact modEng_keeps () (Engine.state) (fun _ => rfl)
@[simp] theorem breakHome_lineState (s : State) (h : Home) (Y : LineId) :
    ((s.breakHome h).eng Y).state = ((s.eng Y).state) := by unfold State.breakHome; (try dsimp only); (repeat' split) <;> first | (simp; done) | with_reducible rfl
@[simp] theorem judgeLine_lineState (s : State) (p : Entry → Bool) (X : LineId) (Y : LineId) :
    ((s.judgeLine p X).eng Y).state = ((s.eng Y).state) := by unfold State.judgeLine; (try dsimp only); (repeat' split) <;> first | (simp; done) | with_reducible rfl
@[simp] theorem judge_lineState (s : State) (p : Entry → Bool) (Y : LineId) :
    ((s.judge p).eng Y).state = ((s.eng Y).state) := by unfold State.judge; (try dsimp only); (repeat' split) <;> first | (simp; done) | with_reducible rfl
@[simp] theorem startListening_lineState (s : State) (i : CarIx) (Y : LineId) :
    ((s.startListening i).eng Y).state = ((s.eng Y).state) := by unfold State.startListening; (try dsimp only); (repeat' split) <;> first | (simp; done) | with_reducible rfl
@[simp] theorem wake_lineState (s : State) (i : CarIx) (Y : LineId) :
    ((s.wake i).eng Y).state = ((s.eng Y).state) := by unfold State.wake; (try dsimp only); (repeat' split) <;> first | (simp; done) | with_reducible rfl
@[simp] theorem ensureDrive_lineState (s : State) (i : CarIx) (u : Bool) (Y : LineId) :
    ((s.ensureDrive i u).eng Y).state = ((s.eng Y).state) := by unfold State.ensureDrive; (try dsimp only); (repeat' split) <;> first | (simp; done) | with_reducible rfl
@[simp] theorem offerAssign_lineState (s : State) (a : Assign) (Y : LineId) :
    ((s.offerAssign a).eng Y).state = ((s.eng Y).state) := by unfold State.offerAssign; (try dsimp only); (repeat' split) <;> first | (simp; done) | with_reducible rfl
@[simp] theorem queueText_lineState (s : State) (p : Placement) (i : CarIx) (t : Text) (Y : LineId) :
    ((s.queueText p i t).eng Y).state = ((s.eng Y).state) := by unfold State.queueText; (try dsimp only); (repeat' split) <;> first | (simp; done) | with_reducible rfl
@[simp] theorem enterText_lineState (s : State) (p : Placement) (i : CarIx) (t : Text) (Y : LineId) :
    ((s.enterText p i t).eng Y).state = ((s.eng Y).state) := by unfold State.enterText; (try dsimp only); (repeat' split) <;> first | (simp; done) | with_reducible rfl
@[simp] theorem unseat_lineState (s : State) (X : LineId) (p : CarIx → Bool) (Y : LineId) :
    ((s.unseat X p).eng Y).state = ((s.eng Y).state) := by unfold State.unseat; (try dsimp only); (repeat' split) <;> first | (simp; done) | with_reducible rfl
@[simp] theorem recompute_lineState (s : State) (i : CarIx) (Y : LineId) :
    ((s.recompute i).eng Y).state = ((s.eng Y).state) := by unfold State.recompute; (try dsimp only); (repeat' split) <;> first | (simp; done) | with_reducible rfl
@[simp] theorem applyHeadCap_lineState (s : State) (i : CarIx) (c : Nat) (Y : LineId) :
    ((s.applyHeadCap i c).eng Y).state = ((s.eng Y).state) := by unfold State.applyHeadCap; (try dsimp only); (repeat' split) <;> first | (simp; done) | with_reducible rfl
@[simp] theorem takeLimit_lineState (s : State) (i : CarIx) (l : Nat) (Y : LineId) :
    ((s.takeLimit i l).eng Y).state = ((s.eng Y).state) := by unfold State.takeLimit; (try dsimp only); (repeat' split) <;> first | (simp; done) | with_reducible rfl
@[simp] theorem evaluateGaps_lineState (s : State) (Y : LineId) :
    ((s.evaluateGaps).eng Y).state = ((s.eng Y).state) := by unfold State.evaluateGaps; exact foldl_frame (fun s => (s.eng Y).state) _ (fun s i => by split <;> simp) _ _
@[simp] theorem openGate_lineState (s : State) (g : Fin 8) (Y : LineId) :
    (((s.openGate g).1).eng Y).state = ((s.eng Y).state) := by unfold State.openGate; (try dsimp only); (repeat' split) <;> first | (simp; done) | with_reducible rfl
@[simp] theorem sourceEvent_lineState (s : State) (src : Source) (Y : LineId) :
    ((s.sourceEvent src).eng Y).state = ((s.eng Y).state) := by unfold State.sourceEvent; (try dsimp only); (repeat' split) <;> simp [foldl_frame (fun s => (s.eng Y).state)]
@[simp] theorem evaluateZones_lineState (s : State) (i : CarIx) (Y : LineId) :
    ((s.evaluateZones i).eng Y).state = ((s.eng Y).state) := by unfold State.evaluateZones; (try dsimp only); (repeat' split) <;> simp [foldl_frame (fun s => (s.eng Y).state)]
@[simp] theorem setContext_lineState (s : State) (X : LineId) (k : Fin 6) (c : Ctx) (Y : LineId) :
    ((s.setContext X k c).eng Y).state = ((s.eng Y).state) := by unfold State.setContext; first | (split <;> first | exact modEng_keeps () (Engine.state) (fun _ => rfl) | rfl) | exact modEng_keeps () (Engine.state) (fun _ => rfl)
@[simp] theorem parkAndFree_lineState (s : State) (X : LineId) (k : Fin 6) (Y : LineId) :
    ((s.parkAndFree X k).eng Y).state = ((s.eng Y).state) := by unfold State.parkAndFree; (try dsimp only); (repeat' split) <;> first | (simp; done) | with_reducible rfl
@[simp] theorem releaseContext_lineState (s : State) (X : LineId) (i : CarIx) (Y : LineId) :
    ((s.releaseContext X i).eng Y).state = ((s.eng Y).state) := by unfold State.releaseContext; (try dsimp only); (repeat' split) <;> first | (simp; done) | with_reducible rfl
@[simp] theorem forgetContexts_lineState (s : State) (i : CarIx) (Y : LineId) :
    ((s.forgetContexts i).eng Y).state = ((s.eng Y).state) := by unfold State.forgetContexts; (try dsimp only); (repeat' split) <;> first | (simp; done) | with_reducible rfl
@[simp] theorem freeAllContexts_lineState (s : State) (X : LineId) (Y : LineId) :
    ((s.freeAllContexts X).eng Y).state = ((s.eng Y).state) := by unfold State.freeAllContexts; (try dsimp only); (repeat' split) <;> simp [foldl_frame (fun s => (s.eng Y).state)]
@[simp] theorem obtainContext_lineState (s : State) (X : LineId) (i : CarIx) (k : Fin 6) (Y : LineId) :
    ((s.obtainContext X i k).eng Y).state = ((s.eng Y).state) := by unfold State.obtainContext; (try dsimp only); (repeat' split) <;> first | (simp; done) | with_reducible rfl
@[simp] theorem modContextOf_lineState (s : State) (X : LineId) (i : CarIx) (f : Ctx → Ctx) (Y : LineId) :
    ((s.modContextOf X i f).eng Y).state = ((s.eng Y).state) := by unfold State.modContextOf; (try dsimp only); (repeat' split) <;> first | (simp; done) | with_reducible rfl
@[simp] theorem markPoll_lineState (s : State) (i : CarIx) (f : PollFate) (Y : LineId) :
    ((s.markPoll i f).eng Y).state = ((s.eng Y).state) := by unfold State.markPoll; (try dsimp only); (repeat' split) <;> first | (simp; done) | with_reducible rfl
@[simp] theorem removeCar_lineState (s : State) (i : CarIx) (b : Bool) (Y : LineId) :
    ((s.removeCar i b).eng Y).state = ((s.eng Y).state) := by unfold State.removeCar; simp; cases Y <;> rfl
@[simp] theorem lapse_lineState (s : State) (i : CarIx) (Y : LineId) :
    ((s.lapse i).eng Y).state = ((s.eng Y).state) := by unfold State.lapse; (try dsimp only); (repeat' split) <;> first | (simp; done) | with_reducible rfl
@[simp] theorem leaveLine_lineState (s : State) (i : CarIx) (X : LineId) (Y : LineId) :
    ((s.leaveLine i X).eng Y).state = ((s.eng Y).state) := by unfold State.leaveLine; (try dsimp only); (repeat' split) <;> first | (simp; done) | with_reducible rfl
@[simp] theorem homedOn_lineState (s : State) (i : CarIx) (X : LineId) (Y : LineId) :
    ((s.homedOn i X).eng Y).state = ((s.eng Y).state) := by unfold State.homedOn; (try dsimp only); (repeat' split) <;> first | (simp; done) | with_reducible rfl
@[simp] theorem changeHome_lineState (s : State) (i : CarIx) (h : Home) (Y : LineId) :
    ((s.changeHome i h).eng Y).state = ((s.eng Y).state) := by unfold State.changeHome; (try dsimp only); (repeat' split) <;> first | (simp; done) | with_reducible rfl
@[simp] theorem takeMiss_lineState (s : State) (X : LineId) (i : CarIx) (r : MissReason) (Y : LineId) :
    ((s.takeMiss X i r).eng Y).state = ((s.eng Y).state) := by unfold State.takeMiss; (try dsimp only); (repeat' split) <;> first | (simp; done) | with_reducible rfl
@[simp] theorem lineDown_lineState (s : State) (X : LineId) (i : CarIx) (Y : LineId) :
    ((s.lineDown X i).eng Y).state = ((s.eng Y).state) := by unfold State.lineDown; (try dsimp only); (repeat' split) <;> first | (simp; done) | with_reducible rfl
@[simp] theorem fillSlot_lineState (s : State) (i : CarIx) (u : Nat) (X : LineId) (Y : LineId) :
    ((s.fillSlot i u X).eng Y).state = ((s.eng Y).state) := by unfold State.fillSlot; (try dsimp only); (repeat' split) <;> first | (simp; done) | with_reducible rfl
@[simp] theorem admitUnit_lineState (s : State) (u : Nat) (X : LineId) (Y : LineId) :
    (((s.admitUnit u X).1).eng Y).state = ((s.eng Y).state) := by unfold State.admitUnit; (try dsimp only); (repeat' split) <;> first | (simp; done) | with_reducible rfl
@[simp] theorem readmit_lineState (s : State) (i : CarIx) (X : LineId) (Y : LineId) :
    ((s.readmit i X).eng Y).state = ((s.eng Y).state) := by unfold State.readmit; (try dsimp only); (repeat' split) <;> first | (simp; done) | with_reducible rfl
@[simp] theorem takeJoin_lineState (s : State) (u : Nat) (X : LineId) (Y : LineId) :
    ((s.takeJoin u X).eng Y).state = ((s.eng Y).state) := by unfold State.takeJoin; (try dsimp only); (repeat' split) <;> first | (simp; done) | with_reducible rfl
@[simp] theorem hearJoin_lineState (s : State) (u : Nat) (X : LineId) (Y : LineId) :
    ((s.hearJoin u X).eng Y).state = ((s.eng Y).state) := by unfold State.hearJoin; (try dsimp only); (repeat' split) <;> first | (simp; done) | with_reducible rfl
@[simp] theorem rehome_lineState (s : State) (i : CarIx) (Y : LineId) :
    ((s.rehome i).eng Y).state = ((s.eng Y).state) := by unfold State.rehome; (try dsimp only); (repeat' split) <;> first | (simp; done) | with_reducible rfl
@[simp] theorem confirmDrive_lineState (s : State) (i : CarIx) (e : Nat) (Y : LineId) :
    ((s.confirmDrive i e).eng Y).state = ((s.eng Y).state) := by unfold State.confirmDrive; (try dsimp only); (repeat' split) <;> first | (simp; done) | with_reducible rfl
@[simp] theorem acknowledge_lineState (s : State) (i : CarIx) (r : Reply) (Y : LineId) :
    ((s.acknowledge i r).eng Y).state = ((s.eng Y).state) := by unfold State.acknowledge; (try dsimp only); (repeat' split) <;> first | (simp; done) | with_reducible rfl
@[simp] theorem checkRelease_lineState (s : State) (i : CarIx) (e : Nat) (Y : LineId) :
    ((s.checkRelease i e).eng Y).state = ((s.eng Y).state) := by unfold State.checkRelease; (try dsimp only); (repeat' split) <;> first | (simp; done) | with_reducible rfl
@[simp] theorem resolveGrant_lineState (s : State) (X : LineId) (i : CarIx) (n : Nat) (Y : LineId) :
    ((s.resolveGrant X i n).eng Y).state = ((s.eng Y).state) := by unfold State.resolveGrant; (try dsimp only); (repeat' split) <;> first | (simp; done) | with_reducible rfl
@[simp] theorem takeReply_lineState (s : State) (X : LineId) (q : PollSlot) (c v l : Nat) (r : Reply) (Y : LineId) :
    ((s.takeReply X q c v l r).eng Y).state = ((s.eng Y).state) := by unfold State.takeReply; dsimp only; (repeat' split) <;> simp
@[simp] theorem abandonSlot_lineState (s : State) (X : LineId) (Y : LineId) :
    ((s.abandonSlot X).eng Y).state = ((s.eng Y).state) := by unfold State.abandonSlot; (try dsimp only); (repeat' split) <;> first | (simp; done) | with_reducible rfl
@[simp] theorem endEffect_lineState (s : State) (X : LineId) (e : EndEffect) (Y : LineId) :
    ((s.endEffect X e).eng Y).state = ((s.eng Y).state) := by cases e <;> simp [State.endEffect]
@[simp] theorem endCycle_lineState (s : State) (X : LineId) (Y : LineId) :
    ((s.endCycle X).eng Y).state = ((s.eng Y).state) := by unfold State.endCycle; (try dsimp only); (repeat' split) <;> simp [foldl_frame (fun s => (s.eng Y).state)]
@[simp] theorem clearBurst_lineState (s : State) (X : LineId) (Y : LineId) :
    ((s.clearBurst X).eng Y).state = ((s.eng Y).state) := by unfold State.clearBurst; first | (split <;> first | exact modEng_keeps () (Engine.state) (fun _ => rfl) | rfl) | exact modEng_keeps () (Engine.state) (fun _ => rfl)
@[simp] theorem noteTraffic_lineState (s : State) (X : LineId) (Y : LineId) :
    ((s.noteTraffic X).eng Y).state = ((s.eng Y).state) := by unfold State.noteTraffic; first | (split <;> first | exact modEng_keeps () (Engine.state) (fun _ => rfl) | rfl) | exact modEng_keeps () (Engine.state) (fun _ => rfl)
@[simp] theorem markDone_lineState (s : State) (X : LineId) (Y : LineId) :
    ((s.markDone X).eng Y).state = ((s.eng Y).state) := by unfold State.markDone; (try dsimp only); (repeat' split) <;> first | (simp; done) | with_reducible rfl
@[simp] theorem wordSent_lineState (s : State) (X : LineId) (w : DriveWord) (Y : LineId) :
    ((s.wordSent X w).eng Y).state = ((s.eng Y).state) := by unfold State.wordSent; (try dsimp only); (repeat' split) <;> first | (simp; done) | with_reducible rfl
@[simp] theorem driveDone_lineState (s : State) (X : LineId) (w : DriveWord) (Y : LineId) :
    ((s.driveDone X w).eng Y).state = ((s.eng Y).state) := by unfold State.driveDone; (try dsimp only); (repeat' split) <;> first | (simp; done) | with_reducible rfl
@[simp] theorem textDone_lineState (s : State) (X : LineId) (Y : LineId) :
    ((s.textDone X).eng Y).state = ((s.eng Y).state) := by unfold State.textDone; (try dsimp only); (repeat' split) <;> first | (simp; done) | with_reducible rfl
@[simp] theorem assignDone_lineState (s : State) (X : LineId) (Y : LineId) :
    ((s.assignDone X).eng Y).state = ((s.eng Y).state) := by unfold State.assignDone; (try dsimp only); (repeat' split) <;> first | (simp; done) | with_reducible rfl
@[simp] theorem pollDone_lineState (s : State) (X : LineId) (q : PollSlot) (w : Option DriveWord) (Y : LineId) :
    ((s.pollDone X q w).eng Y).state = ((s.eng Y).state) := by unfold State.pollDone; (try dsimp only); (repeat' split) <;> first | (simp; done) | with_reducible rfl
@[simp] theorem finishBurst_lineState (s : State) (X : LineId) (Y : LineId) :
    ((s.finishBurst X).eng Y).state = ((s.eng Y).state) := by unfold State.finishBurst; (try dsimp only); (repeat' split) <;> first | (simp; done) | with_reducible rfl
@[simp] theorem beginSlot_lineState (s : State) (X : LineId) (a : AirSlot) (Y : LineId) :
    ((s.beginSlot X a).eng Y).state = ((s.eng Y).state) := by unfold State.beginSlot; (try dsimp only); (repeat' split) <;> first | (simp; done) | with_reducible rfl
@[simp] theorem sendPoll_lineState (s : State) (X : LineId) (i : CarIx) (Y : LineId) :
    ((s.sendPoll X i).eng Y).state = ((s.eng Y).state) := by unfold State.sendPoll; (try dsimp only); (repeat' split) <;> first | (simp; done) | with_reducible rfl
@[simp] theorem beginPoll_lineState (s : State) (X : LineId) (Y : LineId) :
    ((s.beginPoll X).eng Y).state = ((s.eng Y).state) := by unfold State.beginPoll; (try dsimp only); (repeat' split) <;> first | (simp; done) | with_reducible rfl
@[simp] theorem sendCommand_lineState (s : State) (X : LineId) (e : Entry) (Y : LineId) :
    ((s.sendCommand X e).eng Y).state = ((s.eng Y).state) := by unfold State.sendCommand; dsimp only; split <;> simp
@[simp] theorem beginCommand_lineState (s : State) (X : LineId) (Y : LineId) :
    ((s.beginCommand X).eng Y).state = ((s.eng Y).state) := by unfold State.beginCommand; (try dsimp only); (repeat' split) <;> first | (simp; done) | with_reducible rfl
@[simp] theorem beginJoin_lineState (s : State) (X : LineId) (Y : LineId) :
    ((s.beginJoin X).eng Y).state = ((s.eng Y).state) := by unfold State.beginJoin; first | (split <;> first | exact modEng_keeps () (Engine.state) (fun _ => rfl) | rfl) | exact modEng_keeps () (Engine.state) (fun _ => rfl)
@[simp] theorem takeResult_lineState (s : State) (X : LineId) (q : PollSlot) (c : SlotClass) (Y : LineId) :
    ((s.takeResult X q c).eng Y).state = ((s.eng Y).state) := by cases c <;> simp [State.takeResult]
@[simp] theorem endPoll_lineState (s : State) (X : LineId) (q : PollSlot) (w : Nat) (b : Bits) (Y : LineId) :
    ((s.endPoll X q w b).eng Y).state = ((s.eng Y).state) := by unfold State.endPoll; (try dsimp only); (repeat' split) <;> first | (simp; done) | with_reducible rfl
@[simp] theorem tick_lineState (s : State) (Y : LineId) :
    ((s.tick).eng Y).state = ((s.eng Y).state) := by unfold State.tick; (try dsimp only); (repeat' split) <;> first | (simp; done) | with_reducible rfl

end Sys2Proof.Machine
end

