-- ==== Sys2Proof/Tests/Slice0.lean ====
section
/-! SUPPORT. The tests: ill-formed commands, the worked figures of the manual, and for each statement of
Certificates/Slice0/Obligations.lean with hypotheses a state and operands that meet them. Expected values are the
manual's own figures or are worked by hand from its rules. -/

namespace Sys2Proof.Tests

open Sys2Proof.Machine

set_option Elab.async false

/-! ## Small states -/

/-- The state a command leaves. -/
def after (i : Instr) (s : State) : State :=
  match exec i s with
  | .next t => t
  | .fault _ | .refused _ => s

/-- The state after reset, with the first choices of order settled (log 4). -/
def base : State := { State.reset with choices := { fixed := List.replicate 64 0, drawn := 0 } }

/-- One complete frame with tag 7 waits in the input buffer. -/
def asked (s : State) (kind : Nat) (p : List Byte) : State :=
  { s with link := { s.link with complete := [{ kind := kind, tag := 7, payload := p }] } }

/-- Line A runs, in slot `a`. -/
def airA (a : AirSlot) : Engine := { Engine.cold false with state := .run, slot := a }

def onAir (a : AirSlot) : State := base.setEng .A (airA a)

/-- A HEARD car of line B that listens, at a place, with confirmed cap 255. -/
def heardAt (unit : Nat) (dm : Int) : Car :=
  { Car.admitted unit .B with
    state := .heard, position := some { dm := dm, line := .B }, uncertainty := 20, listening := true
    capSent := 255, confirmedCap := 255 }

/-- The same on line A. -/
def heardOnA (unit : Nat) (dm : Int) : Car :=
  { heardAt unit dm with home := .a, joinLine := .A, position := some { dm := dm, line := .A } }

/-- A text of 20 characters at level 5. -/
def text20 : Text :=
  { level := 5, chars := List.replicate 20 0x41#8, next := 0, budget := 2, seq := 2, seat := none, stamp := 0 }

def at_ (s : State) (l : Fin 8) (es : List Entry) : State := { s with queue := s.queue.set l es }

def idle (j : Job) : Entry := { job := j, engaged := none }

def mine (j : Job) : Entry := { job := j, engaged := some .A }

/-- The reply frame's payload. -/
def reply (s : State) : List Byte := (s.link.reply.map fun r => r.frame.payload).getD []

/-! ## Ill-formed commands (one for each check of WellFormed) -/

theorem test_no_character_is_ill_formed : (Instr.frameComplete []).wellFormed = false := by decide
theorem test_no_character_rejected_is_ill_formed : (Instr.frameRejected []).wellFormed = false := by decide
theorem test_capture_past_the_stop_is_ill_formed : (Instr.replyEdgeCapture .A 32768).wellFormed = false := by decide
theorem test_no_width_is_ill_formed : (Instr.burstTrailingEdge .A 0 []).wellFormed = false := by decide
theorem test_wide_burst_is_ill_formed : (Instr.burstTrailingEdge .B 16384 []).wellFormed = false := by decide
theorem test_wide_poll_end_is_ill_formed : (Instr.pollSlotEnd .A 16384 []).wellFormed = false := by decide
theorem test_wide_join_end_is_ill_formed : (Instr.joinSlotEnd .B 16384 []).wellFormed = false := by decide
theorem test_capture_at_the_stop_is_well_formed : (Instr.replyEdgeCapture .A 32767).wellFormed = true := by decide

/-! ## Worked figures -/

/-- R165: the CRC-16 of the ASCII characters 1 to 9 is 0x29B1. -/
theorem test_crc16_check_value :
    crc16 [0x31#8, 0x32#8, 0x33#8, 0x34#8, 0x35#8, 0x36#8, 0x37#8, 0x38#8, 0x39#8] = 0x29B1#16 := by decide +kernel

/-- R63: the CRC-8 of the same bytes is 0xF4. -/
theorem test_crc8_check_value :
    crc8 ([0x31, 0x32, 0x33, 0x34, 0x35, 0x36, 0x37, 0x38, 0x39].map (toBits 8)).flatten = 0xF4#8 := by decide +kernel

/-- R67: cap 40, seq 4, AWAKE, release flag set. -/
theorem test_drive_word : DriveWord.value { cap := 40, seq := 4, grant := .awake, release := true } = 0x28875 := by
  decide

/-- R124: the table at a 50, r 15, m 50. -/
theorem test_required_table :
    [0, 10, 20, 32, 40, 80, 255].map WayParams.default.required = [50, 60, 75, 100, 120, 270, 1867] := by decide +kernel

/-- R106: the worked ranging cases, VF 880 and latency 412. -/
def lt412 : LineParams := { LineParams.default with latency := 412 }

theorem test_ranging_cases :
    lt412.rawDistance 6594 = (2401, false) ∧ lt412.rawDistance 8686 = (29997, false) ∧
      ({ lt412 with length := 20000 } : LineParams).rawDistance 8686 = (20000, true) ∧
      lt412.rawDistance 6330 = (0, false) ∧ lt412.rawDistance 7128 = (9445, false) ∧
      lt412.rawDistance 7140 = (9603, false) := by decide +kernel

/-- R107, R108: replies 1 to 5 of "filtering a car on line B". -/
theorem test_filter_sequence :
    lt412.newPlace .B (some ⟨2380, .B⟩) (measured [2401] 2401) = 2385 ∧
      lt412.newPlace .B (some ⟨2385, .B⟩) (measured [2401, 2427] 2427) = 2395 ∧
      lt412.newPlace .B (some ⟨2395, .B⟩) (measured [2401, 2427, 2084] 2084) = 2396 ∧
      lt412.newPlace .B (some ⟨2396, .B⟩) (measured [2427, 2084, 2467] 2467) = 2403 ∧
      lt412.newPlace .B (some ⟨2403, .B⟩) (measured [2084, 2467, 2467] 2467) = 2419 := by decide +kernel

/-- R112: the growth table. -/
def growing (vmax polls commands joins slotLen : Nat) : Engine :=
  { Engine.cold false with
    params := { LineParams.default with vmax := vmax }
    plan := { polls := polls, commands := commands, joins := joins, slotLen := slotLen } }

theorem test_growth_table :
    (growing 80 12 6 2 40).growth = 4 ∧ (growing 80 6 2 0 40).growth = 2 ∧ (growing 120 24 16 4 100).growth = 27 ∧
      (growing 255 24 16 4 100).growth = 58 := by decide

/-- R35: the windows of "windows on line A". -/
theorem test_windows :
    lt412.tmax = 2275 ∧ lt412.windowStart Ctx.free = 6412 ∧ lt412.windowEnd Ctx.free = 8987 ∧
      lt412.windowStart { Ctx.free with mode := .narrow, centre := 8686 } = 8386 ∧
      lt412.windowEnd { Ctx.free with mode := .narrow, centre := 8686 } = 8986 := by decide

/-- R88 to R90: "gain and window of a restored car". -/
def restored : Ctx := loadedContext 47 (some { centre := 7120, gain := 6 })

theorem test_restored_context :
    let c1 := restored.afterValid 7128 9445 52
    let c2 := c1.afterMiss .faint
    let c3 := c2.afterMiss .noEdge
    let c4 := c3.afterValid 7140 9603 12
    (c1.mode, c1.centre, c1.gain, c1.narrowMisses) = (.narrow, 7128, 5, 0) ∧
      (c2.mode, c2.centre, c2.gain, c2.narrowMisses) = (.narrow, 7128, 6, 1) ∧
      (c3.mode, c3.centre, c3.gain, c3.narrowMisses) = (.wide, 7128, 6, 2) ∧
      (c4.mode, c4.centre, c4.gain, c4.narrowMisses, c4.history) = (.narrow, 7140, 7, 0, [9445, 9603]) := by decide

/-- R83: the ages at cycle 5 of stamps 65,530 and 3. -/
theorem test_ages : ({ Ctx.free with stamp := 65530 } : Ctx).age 5 = 11 ∧ ({ Ctx.free with stamp := 3 } : Ctx).age 5 = 2 := by
  decide

/-- R125 to R130: "two cars closing" and the rows of "raising under hysteresis". -/
def closing : State :=
  (base.setCar 3 { heardAt 1 2400 with direction := .pos, speed := 40 }).setCar 7 (heardAt 2 2620)

theorem test_two_cars_closing :
    let t := closing.evaluateGaps
    (t.car 3).gapCap = some 32 ∧ (t.car 7).gapCap = some 0 ∧ (t.car 3).effectiveCap = 32 ∧
      t.queue[(1 : Fin 8)] = [idle (.drive 3)] ∧ t.queue[(0 : Fin 8)] = [idle (.drive 7)] ∧
      t.link.outbox.drop 1 = [.capChange 3 .appeared 32, .capChange 7 .zero 0] := by decide +kernel

theorem test_hysteresis_rows :
    WayParams.default.limit 90 0 = 27 ∧ WayParams.default.limit 120 0 = 40 ∧ WayParams.default.limit 130 0 = 43 ∧
      nextGapCap 4 (some 0) 27 = some 27 ∧ nextGapCap 4 (some 27) 40 = some 40 ∧
      nextGapCap 4 (some 40) 43 = some 40 ∧ nextGapCap 4 (some 27) 255 = none := by decide +kernel

/-- R83: "an eviction on line B": context 3 is spared, and 1 goes before 2. -/
def sixOwned : State :=
  let c (i : CarIx) (stamp : Nat) (dirty : Bool) : Ctx := { Ctx.free with owner := some i, stamp := stamp, dirty := dirty }
  at_ (base.setEng .B
    { airA (.poll 2) with
      cycle := 3020
      ctx := #v[c 2 3019 true, c 8 3004 true, c 14 3004 false, c 21 2990 true, c 25 3020 true, c 33 3012 false] })
    5 [idle (.text 21 { text20 with seat := some .B })]

theorem test_eviction :
    sixOwned.chooseContext .B 40 = 1 ∧ (at_ sixOwned 5 []).chooseContext .B 40 = 3 ∧
      ((sixOwned.obtainContext .B 40 1).car 8).parkedB = some { centre := 0, gain := 8 } ∧
      (sixOwned.obtainContext .B 40 1).context .B 1 = { Ctx.free with owner := some 40, stamp := 3020 } := by
  decide +kernel

/-! ## Resets and the step -/

/-- The state after reset is what a cold reset makes of it with both straps low. -/
theorem test_reset_is_cold_reset : after (.coldReset false false) State.reset = State.reset := by decide +kernel

/-- R176: BAUD1 high and BAUD0 low give code 2. -/
theorem test_cold_reset_rate : (after (.coldReset true false) base).link.rate = 2 := by decide +kernel

def counting (count overflow : Nat) : State :=
  base.setEng .A
    { airA (.poll 1) with ranging := { Ranging.idle with running := true, count := count, overflow := overflow } }

def ticked (s : State) : State :=
  match step s with
  | .next t => t
  | .fault _ | .refused _ => s

theorem witness_IdleStepIsOneTick :
    (counting 0 3).pending = [] ∧ (counting 0 3).lineA.ranging.running = true ∧
      (counting 0 3).lineB.ranging.running = false ∧
      (ticked (counting 8190 3)).lineA.ranging.count = 8191 ∧
      (ticked (counting 8191 2)).lineA.ranging.count = 0 ∧ (ticked (counting 8191 2)).lineA.ranging.overflow = 3 ∧
      (ticked (counting 8191 3)).lineA.ranging.count = 8191 ∧
      (let w (n : Nat) : State := base.setEng .A
        { airA (.join 1) with
          ranging := { Ranging.idle with widthRunning := true, width := n }
          joinRx := some { width := n, bits := none } }
       (ticked (w 16382)).lineA.ranging.width = 16383 ∧ (ticked (w 16383)).lineA.ranging.width = 16383 ∧
        (ticked (w 16383)).lineA.joinRx = some { width := 16383, bits := none }) := by decide +kernel

theorem witness_RestartClearsAndKeeps :
    let s := asked (base.setEng .A { airA .mark with joinOpen := true }) 0x18 []
    s.Takes 0x18 7 [] ∧ (after .restart s).lineA.state = .off ∧ (after .restart s).lineA.joinOpen = false ∧
      (after .restart s).link.outbox = [.lineState .A .off, .started true 0 false .none] := by decide +kernel

/-! ## The link -/

theorem witness_OutOfTurnCommandsChangeNothing :
    (base.eng .A).burst = none ∧ base.inService .A = false ∧ (base.eng .A).poll = none ∧
      requestKind .ident = some 0x01 ∧ base.link.complete = [] ∧
      (after .ident (asked base 0x01 [])).link.reply ≠ none ∧
      (asked base 0x02 []).TakesFrame { kind := 0x02, tag := 7, payload := [] } ∧
      (asked base 0x18 []).TakesFrame { kind := 0x18, tag := 7, payload := [] } ∧
      (asked base 0x15 [1#8, 1#8]).TakesFrame { kind := 0x15, tag := 7, payload := [1#8, 1#8] } ∧
      after .allStopStop (asked base 0x15 [1#8, 1#8]) = asked base 0x15 [1#8, 1#8] := by decide +kernel

/-- R29, R31: the order of the slots under the default plan of 12, 6 and 2. -/
theorem witness_slots_follow_the_plan :
    (onAir .mark).nextSlot .A = some (.poll 1) ∧ (onAir (.poll 1)).nextSlot .A = none ∧
      (base.setEng .A { airA (.poll 11) with slotOver := true }).nextSlot .A = some (.poll 12) ∧
      (base.setEng .A { airA (.poll 12) with slotOver := true }).nextSlot .A = some (.command 1) ∧
      (onAir (.command 6)).nextSlot .A = some (.join 1) ∧
      (base.setEng .A { airA (.join 2) with slotOver := true }).cycleDone .A = true ∧
      (onAir (.join 2)).cycleDone .A = false ∧
      (base.setEng .A { airA .mark with plan := { polls := 1, commands := 0, joins := 0, slotLen := 40 } }).nextSlot .A =
        some (.poll 1) ∧
      (base.setEng .A { airA (.poll 1) with
        plan := { polls := 1, commands := 0, joins := 0, slotLen := 40 }, slotOver := true }).cycleDone .A = true := by
  decide +kernel

theorem witness_KindSizeAndTagAreChecked :
    (asked base 0 []).TakesFrame { kind := 0, tag := 7, payload := [] } ∧
      reply (after .unknownKindFrame (asked base 0x19 [])) = [2#8, 0x19#8] ∧
      ¬ sizeAllowed 0x01 [0#8] ∧ reply (after .ident (asked base 0x01 [0#8])) = [3#8] ∧
      ¬ sizeAllowed 0x0E [0#8, 0#8, 0#8, 0#8, 1#8] ∧ sizeAllowed 0x11 [] ∧ sizeAllowed 0x11 [0#8] ∧
      ¬ sizeAllowed 0x11 [0#8, 0#8] := by
  refine ⟨by decide, by decide +kernel, ?_, by decide +kernel, ?_, ?_, ?_, ?_⟩ <;> simp [sizeAllowed]

/-- A tag of 0 with a good size. -/
def untagged : State :=
  { base with link := { base.link with complete := [{ kind := 0x01, tag := 0, payload := [] }] } }

theorem witness_a_tag_of_0 :
    untagged.TakesFrame { kind := 0x01, tag := 0, payload := [] } ∧ reply (after .ident untagged) = [4#8] := by
  decide +kernel

theorem witness_IdentIdentifies : (asked base 0x01 []).Takes 0x01 7 [] := by decide

theorem witness_StatusReportsAndClears :
    (asked base 0x02 []).Takes 0x02 7 [] ∧
      (after .status { asked base 0x02 [] with
        link := { (asked base 0x02 []).link with rejected := 3, overflow := true } }).link.rejected = 0 := by
  decide +kernel

def fullOutbox : Link := { base.link with outbox := List.replicate 32 (.joinAsk 5 .A) }

theorem witness_NoticesFollowTheMask :
    ({ base.link with mask := 0#9 } : Link).mask.getLsbD (Notice.joinAsk 5 .A).bit = false ∧
      base.link.mask.getLsbD (Notice.joinAsk 5 .A).bit = true ∧
      ({ fullOutbox with outbox := fullOutbox.outbox.tail } : Link).outbox.length = 31 ∧
      (fullOutbox.notify (.joinAsk 6 .A)).overflow = true ∧
      (asked base 0x17 [0xFF#8, 1#8]).Takes 0x17 7 [0xFF#8, 1#8] ∧
      (after .noticeMask (asked base 0x17 [0x02#8, 1#8])).link.mask = 0x102#9 ∧
      reply (after .noticeMask (asked base 0x17 [0#8, 2#8])) = [4#8] := by decide +kernel

theorem witness_FramesLeaveInOrder :
    base.link.sending = none ∧ base.link.outbox = [.started false 0 false .none] ∧
      base.link.reply = none ∧
      ((after .ident (asked base 0x01 [])).link.reply.map (·.ahead)) = some 1 ∧
      ((after .frameSendStart (after .ident (asked base 0x01 []))).link.reply.map (·.ahead)) = some 0 ∧
      (after .frameSendStart base).link.sending =
        some { frame := { kind := 0x41, tag := 0, payload := [0#8, 0#8, 0#8, 3#8] }, isReply := false } ∧
      (after .frameSendEnd (after .frameSendStart base)).link.sending = none := by decide +kernel

theorem witness_FrameBytesCompleteTheFrame :
    let f : Frame := { kind := 255, tag := 255, payload := List.replicate 256 0xA5#8 }
    base.link.held = [] ∧ base.link.damaged = false ∧ f.payload.length ≤ 256 ∧
      base.link.used + f.size ≤ 512 := by decide +kernel

/-- An IDENT with tag 1, its check worked by hand from R165. -/
theorem test_frame_of_ident :
    ({ kind := 1, tag := 1, payload := [] } : Frame).bytes.take 5 = [0xA5#8, 2#8, 0#8, 1#8, 1#8] ∧
      (after (.frameComplete (({ kind := 1, tag := 1, payload := [] } : Frame).bytes.map fun b => { byte := b }))
        base).link.complete = [{ kind := 1, tag := 1, payload := [] }] := by decide +kernel

/-- The bytes of the IDENT, the last one changed or its stop bit lost. -/
def spoiled (change : RxChar → RxChar) : List RxChar :=
  let cs := ({ kind := 1, tag := 1, payload := [] } : Frame).bytes.map fun b => ({ byte := b } : RxChar)
  cs.take 6 ++ (cs.drop 6).map change

def fullBuffer : State :=
  { base with
    link := { base.link with
      held := [{ byte := 0xA5#8 }], complete := [{ kind := 1, tag := 1, payload := List.replicate 256 0#8 },
        { kind := 1, tag := 1, payload := List.replicate 241 0#8 }] } }

theorem witness_BadFramesAreRejected :
    base.link.held = [] ∧ base.link.used + 3 ≤ 512 ∧ (1#8).toNat + 256 * (0#8).toNat < 2 ∧
      258 < (3#8).toNat + 256 * (1#8).toNat ∧
      (after (.frameRejected [{ byte := 0xA5#8 }, { byte := 3#8 }, { byte := 1#8 }]) base).link.rejected = 1 ∧
      (spoiled id).length = 7 ∧ (spoiled id).all (fun c => c.byte != 0xA5#8 || c == { byte := 0xA5#8 }) = true ∧
      (after (.frameRejected (spoiled id)) base).link.rejected = 0 ∧
      (after (.frameRejected (spoiled fun c => { c with byte := c.byte ^^^ 1#8 })) base).link.rejected = 1 ∧
      (after (.frameRejected (spoiled fun c => { c with stopOk := false })) base).link.rejected = 1 ∧
      (let s : State := { base with
        link := { base.link with held := (spoiled id).take 6, damaged := true, rejected := 255 } }
       (after (.frameRejected ((spoiled id).drop 6)) s).link.rejected = 255 ∧
        (after (.frameRejected ((spoiled id).drop 6)) s).link.held = [] ∧
        (after (.frameRejected ((spoiled id).drop 6)) s).link.damaged = false) ∧
      fullBuffer.link.used = 512 ∧ (after (.frameComplete [{ byte := 7#8 }]) fullBuffer).link.damaged = true ∧
      (after (.frameComplete [{ byte := 7#8 }]) base) = base ∧
      (after (.frameComplete [{ byte := 0xA5#8, stopOk := false }]) base) = base := by decide +kernel

/-! ## Pins and the halt latch -/

def stopped : State := { base with halt := { base.halt with latch := true, pin := true } }

theorem witness_ReleasesAndFurtherCausesStopNothing :
    stopped.halt.latch = true ∧ stopped.halt.estop = false ∧
      (after .estopAssert stopped).halt.estop = true ∧
      after .estopAssert (after .estopAssert stopped) = after .estopAssert stopped ∧
      (after .estopRelease (after .estopAssert stopped)).halt.estop = false ∧
      (asked stopped 0x15 [2#8, 0#8]).Takes 0x15 7 [2#8, 0#8] ∧
      (asked stopped 0x15 [0#8, 1#8]).Takes 0x15 7 [0#8, 1#8] ∧
      (after .allStopStop (asked stopped 0x15 [0#8, 1#8])).halt.request = true ∧
      (after .allStopMode (asked stopped 0x15 [1#8, 1#8])).halt.mode = .slotBound ∧
      reply (after .allStopMode (asked stopped 0x15 [2#8, 0#8])) = [4#8] ∧
      reply (after .allStopStop (asked stopped 0x15 [0#8, 2#8])) = [4#8] := by decide +kernel

/-- Line A polls, without a drive word; line B is OFF. -/
def polling : State :=
  base.setEng .A { airA (.poll 1) with burst := some { kind := .poll none, bits := [] } }

def slotBound (s : State) : State := { s with halt := { s.halt with mode := .slotBound } }

theorem witness_EstopAndAllStopSetTheLatch :
    polling.halt.latch = false ∧ polling.halt.estop = false ∧ polling.inService .B = false ∧
      polling.inService .A = true ∧ polling.halt.mode = .immediate ∧ (slotBound polling).halt.mode = .slotBound ∧
      (polling.eng .A).burst.any Burst.cutByHalt = false ∧
      (after .estopAssert polling).lineA.slot = .mark ∧ (after .estopAssert polling).lineA.cycle = 1 ∧
      (after .estopAssert (slotBound polling)).lineA.slot = .poll 1 ∧
      (after .estopAssert (slotBound polling)).lineA.restartPending = true := by decide +kernel

theorem witness_all_stop_sets_the_latch :
    (asked polling 0x15 [0#8, 1#8]).Takes 0x15 7 [0#8, 1#8] ∧ polling.halt.latch = false ∧
      (after .allStopStop (asked polling 0x15 [0#8, 1#8])).halt.latch = true ∧
      (after .allStopStop (asked (slotBound polling) 0x15 [0#8, 0#8])).lineA.restartPending = true := by decide +kernel

/-- Line A sends a POLL with a drive word to slot 3, whose POLL and DRIVE it has engaged; slot 3 has a context to park. -/
def pollingWord : State :=
  at_ (at_ ((base.setEng .A
      { airA (.poll 1) with
        burst := some {
            kind := .poll (some { cap := 255, seq := 1, grant := .awake, release := false }), bits := [] }
        ctx := (Engine.cold false).ctx.set 0 { Ctx.free with owner := some 3, dirty := true, centre := 7000 } }).setCar 3
      (heardOnA 1 (-500)))
    4 [idle (.poll 9), mine (.poll 3)]) 7 [mine (.drive 3)]

/-- R39, R59, R160: the cut POLL heads its level and the cut DRIVE stays, under SLOT_BOUND too, for a word was cut. -/
theorem witness_a_cut_poll_heads_its_level :
    pollingWord.stopsAtOnce .A = true ∧ (slotBound pollingWord).stopsAtOnce .A = true ∧
      (slotBound polling).stopsAtOnce .A = false ∧
      (after .estopAssert (slotBound pollingWord)).queue[(4 : Fin 8)] = [idle (.poll 3), idle (.poll 9)] ∧
      (after .estopAssert (slotBound pollingWord)).queue[(7 : Fin 8)] = [idle (.drive 3)] ∧
      (after .estopAssert (slotBound pollingWord)).lineA.cycle = 1 := by decide +kernel

/-- A second setting of the latch while a restart is pending (log 28). -/
theorem witness_a_second_setting_restarts_once :
    let s := after .estopRelease (after .estopAssert (slotBound polling))
    let u := after .resume (asked s 0x16 [])
    u.halt.latch = false ∧ u.lineA.restartPending = true ∧
      (after .estopAssert { u with halt := { u.halt with mode := .immediate } }).lineA.cycle = 1 ∧
      (after .estopAssert { u with halt := { u.halt with mode := .immediate } }).lineA.restartPending = false ∧
      (after .estopAssert u).lineA.restartPending = true := by decide +kernel

theorem witness_ResumeReleasesEveryCar :
    (asked stopped 0x16 []).Takes 0x16 7 [] ∧
      reply (after .resume (asked { stopped with halt := { stopped.halt with estop := true } } 0x16 [])) = [9#8] ∧
      reply (after .resume (asked base 0x16 [])) = [0#8] ∧
      (let s := asked (stopped.setCar 3 (heardAt 1 100)) 0x16 []
       (s.car 3).present = true ∧ (after .resume s).halt.latch = false ∧
        ((after .resume s).car 3).release = .owed ∧ (after .resume s).queue[(3 : Fin 8)] = [idle (.drive 3)]) := by
  decide +kernel

/-- R142, R162: RESUME opens a HALT_END gate, and a car to be stopped for its gap has its DRIVE at level 0. -/
theorem witness_resume_opens_halt_end_gates :
    let s := asked (((stopped.setCar 3 (heardAt 1 100)).setCar 5
        { heardAt 2 900 with gapCap := some 0, effectiveCap := 0 }).setGate 2
      { source := .haltEnd, credit := 0, banking := false, placement := .tail, hold := [.cap 3 25, .cap 5 25] }) 0x16 []
    (after .resume s).queue[(0 : Fin 8)] = [idle (.drive 5)] ∧ ((after .resume s).gate 2).hold = [.cap 5 25] ∧
      ((after .resume s).car 3).headCap = 25 := by decide +kernel

/-! ## Lines -/

/-- Line A runs; slot 0 is homed on A, slot 1 is BOTH, slot 2 is JOINING on B. -/
def twoLines : State :=
  (((base.setEng .A (airA (.command 1))).setEng .B (airA (.command 1))).setCar 0 (heardOnA 1 (-500)) |>.setCar 1
    { heardAt 2 0 with home := .both }).setCar 2 (Car.admitted 3 .B)

theorem witness_FaultInputTakesTheLineDown :
    twoLines.inService .A = true ∧ (twoLines.eng .A).faultIn = false ∧ base.inService .A = false ∧
      (twoLines.car 0).present = true ∧ (twoLines.car 0).state ≠ .joining ∧ (twoLines.car 0).home = homeOf .A ∧
      (twoLines.car 1).home = .both ∧ twoLines.inService (otherLine .A) = true ∧
      ((after (.faultInputSet .A) twoLines).car 0).state = .lost ∧
      ((after (.faultInputSet .A) twoLines).car 1).home = .b ∧
      (after (.faultInputSet .A) twoLines).lineA.state = .fault := by decide +kernel

/-- Line A leaves service in a command slot with a TEXT on the air: slots 0 and 4 are JOINING and heard on A, slot 3 is
LOST, and slot 5, homed on B, has a dirty context of A. -/
def leavingLine : State :=
  at_ (((((onAir (.command 1)).setCar 0 (Car.admitted 1 .A)).setCar 3 { heardOnA 2 (-500) with state := .lost }).setCar 4
    (heardOnA 3 (-900))).setCar 5 (heardAt 4 900) |>.setEng .A
      { airA (.command 1) with
        burst := some { kind := .text, bits := [] }
        ctx := (Engine.cold false).ctx.set 2 { Ctx.free with owner := some 5, dirty := true, centre := 9000, gain := 4 } })
    5 [mine (.text 4 { text20 with next := 1, seat := some .A })]

theorem witness_departures_lapse_park_and_unseat :
    leavingLine.lapsing .A 0 = true ∧ leavingLine.lapsing .A 4 = false ∧
      (let t := after (.faultInputSet .A) leavingLine
       t.car 0 = Car.free ∧ (t.car 4).state = .lost ∧ (t.car 4).uncertainty = 100000 ∧
        (t.car 5).parkedA = some { centre := 9000, gain := 4 } ∧ t.context .A 2 = Ctx.free ∧
        t.queue[(5 : Fin 8)] = [idle (.text 4 text20)] ∧
        t.link.outbox.filter (·.bit != 5) =
          [.started false 0 false .none, .lineState .A .fault, .carJoin .lapsed (some 0) 1 none, .carLost 4 3 .lineDown]) ∧
      ((after (.faultInputSet .A) pollingWord).queue[(4 : Fin 8)] = [idle (.poll 3), idle (.poll 9)]) ∧
      ((after (.faultInputSet .A) pollingWord).queue[(7 : Fin 8)] = [idle (.drive 3)]) ∧
      ((after (.faultInputSet .A) pollingWord).car 3).parkedA = some { centre := 7000, gain := 8 } := by decide +kernel

/-- R168, check 4: a line byte of 2. -/
theorem witness_line_bytes_are_checked :
    (asked base 0x04 [2#8]).Takes 0x04 7 [2#8] ∧ reply (after .lineStart (asked base 0x04 [2#8])) = [4#8] ∧
      reply (after .lineStop (asked base 0x05 [2#8])) = [4#8] ∧
      reply (after .planStage (asked base 0x06 [2#8, 12#8, 6#8, 2#8, 40#8])) = [4#8] ∧
      reply (after .lineConfig (asked base 0x03 (2#8 :: List.replicate 18 0#8))) = [4#8] := by decide +kernel

theorem witness_LineStopTakesTheLineDown :
    (asked twoLines 0x05 [0#8]).Takes 0x05 7 [BitVec.ofNat 8 (lineCode .A)] ∧ twoLines.inService .A = true ∧
      (base.eng .A).state = .off ∧
      ((after (.faultInputSet .A) twoLines).eng .A).state = .fault ∧
      (after .lineStop (asked twoLines 0x05 [0#8])).lineA.state = .off ∧
      (after .lineStop (asked (after (.faultInputSet .A) twoLines) 0x05 [0#8])).lineA.state = .off := by decide +kernel

/-- Slots 0 and 1 count on line A: 0 is due, and 1 has one cycle left. -/
def dueCars : State :=
  (base.setCar 0 { heardOnA 1 (-500) with countdown := 0, grantedDoze := .light }).setCar 1
    { heardOnA 2 (-900) with countdown := 1 }

theorem witness_LineStartBeginsACycle :
    (asked dueCars 0x04 [0#8]).Takes 0x04 7 [BitVec.ofNat 8 (lineCode .A)] ∧
      dueCars.inService .A = false ∧ (dueCars.eng .A).faultIn = false ∧ twoLines.inService .A = true ∧
      reply (after .lineStart (asked (after (.faultInputSet .A) base) 0x04 [0#8])) = [8#8] ∧
      dueCars.hasPoll 0 = false ∧ (dueCars.car 0).home.countingLine = .A ∧
      (let t := after .lineStart (asked dueCars 0x04 [0#8])
       (t.car 0).countdown = 3 ∧ t.queue[(4 : Fin 8)] = [idle (.poll 0)] ∧ (t.car 1).countdown = 0 ∧
        t.hasPoll 1 = false ∧ t.lineA.state = .run ∧ t.lineA.cycle = 1) := by decide +kernel

/-- R75, R13, R43: an ask of line A ends and one of line B stays; intervals and levels of a dozing and a LOST car. -/
theorem witness_line_start_times_out_asks :
    let s : State := asked { base with
      asks := [{ unitId := 9, line := .A, cyclesLeft := 1 }, { unitId := 8, line := .B, cyclesLeft := 1 },
        { unitId := 7, line := .A, cyclesLeft := 2 }] } 0x04 [0#8]
    (after .lineStart s).asks = [{ unitId := 8, line := .B, cyclesLeft := 1 }, { unitId := 7, line := .A, cyclesLeft := 1 }] ∧
      s.timedOut .A = [.carJoin .timedOut none 9 (some .A)] ∧ (after .lineStart s).link.overflow = false ∧
      (after .lineStart s).link.outbox.filter (·.bit == 1) = [.carJoin .timedOut none 9 (some .A)] ∧
      ({ heardAt 1 0 with grantedDoze := .parked } : Car).pollInterval = 64 ∧
      ({ heardAt 1 0 with grantedDoze := .parked } : Car).pollLevel = 6 ∧
      ({ heardAt 1 0 with state := .lost } : Car).pollInterval = 4 ∧
      ({ heardAt 1 0 with state := .lost, gapCap := some 3 } : Car).pollLevel = 3 := by decide +kernel

/-- LINE_CONFIG of line A with the default values, but for the length. -/
def lineConfig (l0 l1 : Byte) : List Byte :=
  [l0, l1, 0x70#8, 3#8, 0#8, 0#8, 0x2C#8, 1#8, 128#8, 120#8, 0#8, 20#8, 2#8, 80#8, 8#8, 16#8, 32#8, 3#8]

theorem witness_LineConfigIsClampedAndApplied :
    (lineConfig 0x30#8 0x75#8).length = 18 ∧ lineParamsOf (0#8 :: lineConfig 0x30#8 0x75#8) = LineParams.default ∧
      (asked twoLines 0x03 (0#8 :: lineConfig 0x30#8 0x75#8)).Takes 0x03 7
        (BitVec.ofNat 8 (lineCode .A) :: lineConfig 0x30#8 0x75#8) ∧
      (twoLines.eng .A).state ≠ .off ∧ (base.eng .A).state = .off ∧
      reply (after .lineConfig (asked twoLines 0x03 (0#8 :: lineConfig 0x30#8 0x75#8))) = [0#8] ∧
      reply (after .lineConfig (asked twoLines 0x03 (0#8 :: lineConfig 0x31#8 0x75#8))) = [7#8] ∧
      reply (after .lineConfig (asked base 0x03 (0#8 :: lineConfig 0xE7#8 0x03#8))) = [1#8] ∧
      (after .lineConfig (asked base 0x03 (0#8 :: lineConfig 0xE7#8 0x03#8))).lineA.params.length = 1000 ∧
      (after .lineConfig (asked base 0x03 (0#8 :: lineConfig 0x51#8 0xC3#8))).lineA.params.length = 50000 ∧
      nearest 1000 50000 999 = 1000 ∧ nearest 1000 50000 50001 = 50000 ∧ nearest 1000 50000 50000 = 50000 := by
  decide +kernel

theorem witness_PlanStageByLineState :
    (asked base 0x06 [0#8, 24#8, 16#8, 4#8, 100#8]).Takes 0x06 7
        [BitVec.ofNat 8 (lineCode .A), 24#8, 16#8, 4#8, 100#8] ∧
      (after .planStage (asked base 0x06 [0#8, 1#8, 0#8, 0#8, 10#8])).lineA.plan =
        { polls := 1, commands := 0, joins := 0, slotLen := 10 } ∧
      (after .planStage (asked twoLines 0x06 [0#8, 24#8, 16#8, 4#8, 100#8])).lineA.staged =
        some { polls := 24, commands := 16, joins := 4, slotLen := 100 } ∧
      reply (after .planStage (asked base 0x06 [0#8, 0#8, 0#8, 0#8, 10#8])) = [4#8] ∧
      reply (after .planStage (asked base 0x06 [0#8, 24#8, 17#8, 4#8, 100#8])) = [4#8] := by decide +kernel

/-- The last slot of line A's cycle is done; slot 0 was not heard and moves, slot 1 is on line B. -/
def lastSlot : State :=
  ((base.setEng .A { airA (.join 2) with slotOver := true, cycle := 65535 }).setCar 0
    { heardOnA 1 (-500) with speed := 30 }).setCar 1 (heardAt 2 900)

/-- The same with an idle line whose one car dozes. -/
def sleepy : State :=
  ((base.setEng .A { airA (.join 2) with slotOver := true, idle := 31 }).setCar 0
    { heardOnA 1 (-500) with grantedDoze := .deep, listening := false })

theorem witness_CycleEndStartsTheNextCycle :
    lastSlot.cycleDone .A = true ∧ (lastSlot.eng .A).burst = none ∧ (lastSlot.eng .A).restartPending = false ∧
      (lastSlot.car 0).home.countingLine = .A ∧ (lastSlot.car 1).home.countingLine ≠ .A ∧
      ((after (.cycleEnd .A) lastSlot).car 0).uncertainty = 24 ∧
      ((after (.cycleEnd .A) lastSlot).car 1).uncertainty = 20 ∧
      (after (.cycleEnd .A) lastSlot).lineA.cycle = 0 ∧ (after (.cycleEnd .A) lastSlot).lineA.state = .run ∧
      (after (.cycleEnd .A) lastSlot).lineA.idle = 1 ∧
      sleepy.cycleDone .A = true ∧ (sleepy.car 0).grantedDoze.isDeep = true ∧
      (∀ g, (sleepy.gate g).source ≠ .cycleEnd .A) ∧ sleepy.asks = [] ∧
      (after (.cycleEnd .A) sleepy).lineA.idle = 32 ∧ (after (.cycleEnd .A) sleepy).lineA.state = .quiet := by
  decide +kernel

/-- R12, R75, R129, R142: at the cycle end of line A the cars of "two cars closing" take their gap caps, a CYCLE_END gate
releases its cap, slot 0's POLL is due, and an ask of the line times out. -/
def busyEnd : State :=
  let s := (((base.setEng .A { airA (.join 2) with slotOver := true }).setCar 0 (heardOnA 1 (-500))).setCar 3
    { heardAt 3 2400 with direction := .pos, speed := 40 }).setCar 7 (heardAt 4 2620)
  { s.setGate 5 { source := .cycleEnd .A, credit := 0, banking := false, placement := .tail, hold := [.cap 0 25] } with
    asks := [{ unitId := 9, line := .A, cyclesLeft := 1 }] }

theorem witness_cycle_ends_turn_the_blocks :
    let t := after (.cycleEnd .A) busyEnd
    busyEnd.cycleDone .A = true ∧ busyEnd.hasPoll 0 = false ∧ (busyEnd.car 0).countdown = 0 ∧
      busyEnd.wayOrder = [0, 3, 7] ∧ (t.car 3).gapCap = some 32 ∧ (t.car 7).gapCap = some 0 ∧ (t.car 0).headCap = 25 ∧
      (t.gate 5).hold = [] ∧ t.queue[(4 : Fin 8)] = [idle (.poll 0)] ∧ t.asks = [] ∧ t.link.overflow = false ∧
      t.link.outbox.filter (·.bit == 1) = [.carJoin .timedOut none 9 (some .A)] ∧
      t.link.outbox.filter (·.bit == 5) = [.capChange 3 .appeared 32, .capChange 7 .zero 0] := by decide +kernel

/-- Line A with a restart pending, in slot `a`, its end taken or not; slot 3 counts on A and moves. -/
def pendingIn (a : AirSlot) (done : Bool) : State :=
  (base.setEng .A { airA a with slotOver := done, restartPending := true }).setCar 3
    { heardOnA 1 (-500) with speed := 30 }

/-- R160, R161: the restart pending is taken at a cycle end, at each slot start and at the ends of poll and join slots. -/
theorem witness_restarts_pending_are_taken :
    (pendingIn (.join 2) true).cycleDone .A = true ∧ (pendingIn .mark false).nextSlot .A = some (.poll 1) ∧
      (pendingIn (.poll 12) true).nextSlot .A = some (.command 1) ∧
      (pendingIn (.command 6) false).nextSlot .A = some (.join 1) ∧
      (pendingIn (.poll 1) false).inPollSlot .A = true ∧ (pendingIn (.join 1) false).inJoinSlot .A = true ∧
      (let t := after (.cycleEnd .A) (pendingIn (.join 2) true)
       t.lineA.slot = .mark ∧ t.lineA.cycle = 1 ∧ t.lineA.restartPending = false ∧ t.lineA.joinOpen = false ∧
        (t.car 3).uncertainty = 24) ∧
      (after (.pollSlotStart .A) (pendingIn .mark false)).lineA.cycle = 1 ∧
      (after (.commandSlotStart .A) (pendingIn (.poll 12) true)).lineA.cycle = 1 ∧
      (after (.joinSlotStart .A) (pendingIn (.command 6) false)).lineA.cycle = 1 ∧
      (after (.pollSlotEnd .A 0 []) (pendingIn (.poll 1) false)).lineA.cycle = 1 ∧
      (after (.joinSlotEnd .A 0 []) (pendingIn (.join 1) false)).lineA.slot = .mark := by decide +kernel

/-- R153: a QUIET line without a break stays QUIET, and its dozing car does not grow (R112); a break brings RUN (R28). -/
theorem witness_quiet_lines_stay_quiet :
    let quiet (broken : Bool) : State :=
      sleepy.setEng .A { sleepy.lineA with state := .quiet, breakPending := broken }
    (quiet false).cycleDone .A = true ∧ (sleepy.car 0).listening = false ∧
      (after (.cycleEnd .A) (quiet false)).lineA.state = .quiet ∧
      ((after (.cycleEnd .A) (quiet false)).car 0).uncertainty = 20 ∧
      (after (.cycleEnd .A) (quiet true)).lineA.state = .run ∧
      (after (.cycleEnd .A) (quiet true)).link.outbox.drop 1 = [.lineState .A .run] ∧
      (after (.cycleEnd .A) sleepy).link.outbox.drop 1 = [.lineState .A .quiet] := by decide +kernel

/-! ## The way, zones and gates -/

/-- WAY_CONFIG with the defaults, but for the car length and the motion threshold. -/
def wayConfig (carLength motion : Byte) : List Byte :=
  [50#8, 0#8, 15#8, 50#8, 0#8, carLength, 0#8, 4#8, 0x2C#8, 1#8, motion, 20#8]

theorem witness_WayConfigIsClampedAndApplied :
    (wayConfig 80#8 2#8).length = 12 ∧ (asked closing 0x07 (wayConfig 80#8 2#8)).Takes 0x07 7 (wayConfig 80#8 2#8) ∧
      wayParamsOf (wayConfig 80#8 2#8) = WayParams.default ∧
      ((after .wayConfig (asked closing 0x07 (wayConfig 80#8 3#8))).car 3).gapCap = none ∧
      reply (after .wayConfig (asked closing 0x07 (wayConfig 80#8 0#8))) = [1#8] ∧
      (after .wayConfig (asked closing 0x07 (wayConfig 80#8 0#8))).way.motion = 1 ∧
      closing.wayOrder = [3, 7] ∧
      ((after .wayConfig (asked closing 0x07 (wayConfig 90#8 2#8))).car 3).gapCap = some 27 := by decide +kernel

/-- Zone 3 from +2,000 to +2,300 with cap 30, enabled or not (R120). -/
def zone3 (enabled : Byte) : List Byte := [3#8, 0xD0#8, 7#8, 0#8, 0#8, 0xFC#8, 8#8, 0#8, 0#8, 30#8, enabled]

/-- "A car entering a zone": slot 3 at +2,310 with uncertainty 20. -/
theorem witness_ZoneWriteEvaluatesEveryCar :
    let s := base.setCar 3 (heardAt 1 2310)
    (asked s 0x08 (zone3 1#8)).Takes 0x08 7 (zone3 1#8) ∧
      ((after .zoneWrite (asked s 0x08 (zone3 1#8))).car 3).zoneCap = 30 ∧
      ((after .zoneWrite (asked s 0x08 (zone3 1#8))).car 3).touch = [3] ∧
      ((after .zoneWrite (asked s 0x08 (zone3 0#8))).car 3).zoneCap = 255 ∧
      reply (after .zoneWrite (asked s 0x08 (zone3 2#8))) = [4#8] ∧
      reply (after .zoneWrite (asked s 0x08 (16#8 :: (zone3 1#8).tail))) = [4#8] := by decide +kernel

/-- R123, R142: the zone entry opens the gate of that car and zone, and no other gate. -/
theorem witness_zone_writes_open_gates :
    let gate (n : Fin 16) : Gate :=
      { source := .carInZone 3 n, credit := 0, banking := true, placement := .tail, hold := [] }
    let s := asked (((base.setCar 3 (heardAt 1 2310)).setGate 0 (gate 3)).setGate 1 (gate 4)) 0x08 (zone3 1#8)
    ((after .zoneWrite s).gate 0).credit = 1 ∧ ((after .zoneWrite s).gate 1).credit = 0 ∧
      (after .zoneWrite (asked (after .zoneWrite s) 0x08
        (zone3 1#8))).gate 0 = (after .zoneWrite s).gate 0 := by decide +kernel

theorem witness_ReadingRequestsChangeNothing :
    (asked closing 0x09 [15#8]).Takes 0x09 7 [15#8] ∧ (asked closing 0x0C [7#8]).Takes 0x0C 7 [7#8] ∧
      (asked closing 0x10 [3#8]).Takes 0x10 7 [3#8] ∧ (closing.car 3).present = true ∧
      (closing.car 47).present = false ∧ (asked closing 0x11 [1#8]).Takes 0x11 7 [1#8] ∧
      (asked closing 0x11 []).Takes 0x11 7 [] ∧
      reply (after .zoneRead (asked closing 0x09 [16#8])) = [4#8] ∧
      reply (after .zoneRead (asked { closing with
        zones := closing.zones.set 15 { lo := -2, hi := 50000, cap := 30, enabled := true } } 0x09
        [15#8])) = [0#8, 0xFE#8, 0xFF#8, 0xFF#8, 0x50#8, 0xC3#8, 0#8, 30#8, 1#8, 0#8] ∧
      reply (after .gateRead (asked (closing.setGate 7
        { source := .none, credit := 0, banking := false, placement := .tail, hold := [.cap 3 254] }) 0x0C [7#8])) =
        [0#8, 0#8, 255#8, 255#8, 0#8, 1#8, 0#8, 1#8, 3#8, 254#8] ∧
      reply (after .gateRead (asked closing 0x0C [8#8])) = [4#8] ∧
      reply (after .carRead (asked closing 0x10 [47#8])) = [5#8] ∧
      (reply (after .wayOrder (asked closing 0x11 [1#8]))).take 5 = [0#8, 2#8, 1#8, 1#8, 7#8] := by decide +kernel

theorem witness_LimitIsTheLargestSafeCode :
    0 < WayParams.default.braking ∧ WayParams.default.required (min 255 40) = 120 ∧
      WayParams.default.limit 119 40 = 0 ∧ WayParams.default.limit 120 40 = 0 ∧ WayParams.default.limit 1867 0 = 255 ∧
      closing.way = WayParams.default ∧ (closing.car 3).position = some { dm := 2400, line := .B } ∧
      closing.gapBetween 3 7 = 100 := by decide +kernel

theorem witness_GapCapFollowsItsHysteresis :
    nextGapCap 4 (some 40) 255 = none ∧ nextGapCap 4 none 254 = some 254 ∧ nextGapCap 4 (some 40) 44 = some 44 ∧
      nextGapCap 4 (some 40) 43 = some 40 ∧ nextGapCap 4 (some 40) 39 = some 39 ∧
      nextGapCap 0 (some 40) 41 = some 41 := by decide

theorem witness_GateConfigSetsTheGate :
    let s := base.setCar 6 (heardAt 1 3700)
    (asked s 0x0A [7#8, 4#8, 6#8, 15#8, 1#8, 0#8]).Takes 0x0A 7 [7#8, 4#8, 6#8, 15#8, 1#8, 0#8] ∧
      (after .gateConfig (asked s 0x0A [7#8, 4#8, 6#8, 15#8, 1#8, 0#8])).gate 7 =
        { source := .carInZone 6 15, credit := 0, banking := true, placement := .head, hold := [] } ∧
      reply (after .gateConfig (asked s 0x0A [7#8, 5#8, 47#8, 0#8, 1#8, 1#8])) = [5#8] ∧
      reply (after .gateConfig (asked s 0x0A [8#8, 0#8, 0#8, 0#8, 0#8, 0#8])) = [4#8] ∧
      reply (after .gateConfig (asked s 0x0A [7#8, 7#8, 0#8, 0#8, 0#8, 0#8])) = [4#8] := by decide +kernel

def holding (banking : Bool) (credit : Nat) (hold : List Held) : State :=
  (base.setCar 6 (heardAt 1 3700)).setGate 5
    { source := .cycleEnd .A, credit := credit, banking := banking, placement := .tail, hold := hold }

theorem witness_GateOpenReleasesTheFirst :
    (asked (holding false 0 []) 0x0B [5#8]).Takes 0x0B 7 [5#8] ∧
      reply (after .gateOpen (asked (holding false 0 []) 0x0B [8#8])) = [4#8] ∧
      (after .gateOpen (asked (holding false 0 [.text 6 text20]) 0x0B [5#8])).queue[(5 : Fin 8)] =
        [idle (.text 6 text20)] ∧
      reply (after .gateOpen (asked (holding false 0 [.cap 6 25]) 0x0B [5#8])) = [0#8, 1#8, 6#8, 25#8, 255#8] ∧
      ((after .gateOpen (asked (holding false 0 [.cap 6 25]) 0x0B [5#8])).car 6).effectiveCap = 25 ∧
      ((after .gateOpen (asked (holding true 15 []) 0x0B [5#8])).gate 5).credit = 15 ∧
      reply (after .gateOpen (asked (holding false 0 []) 0x0B [5#8])) = [0#8, 3#8, 255#8, 255#8, 255#8] := by
  decide +kernel

/-! ## Cars -/

/-- The pool of 40 is in use. -/
def fullPool : State := at_ (holding false 0 []) 5 (List.replicate 40 (idle (.text 6 text20)))

theorem witness_CarCapIsAppliedOrHeld :
    (asked (holding false 0 []) 0x0D [6#8, 25#8, 0#8, 255#8]).Takes 0x0D 7 [6#8, 25#8, 0#8, 255#8] ∧
      ((after .carCap (asked (holding false 0 []) 0x0D [6#8, 25#8, 0#8, 255#8])).car 6).headCap = 25 ∧
      reply (after .carCap (asked (holding false 0 []) 0x0D [48#8, 25#8, 0#8, 255#8])) = [4#8] ∧
      reply (after .carCap (asked (holding false 0 []) 0x0D [6#8, 25#8, 1#8, 255#8])) = [4#8] ∧
      reply (after .carCap (asked (holding false 0 []) 0x0D [6#8, 25#8, 0#8, 8#8])) = [4#8] ∧
      reply (after .carCap (asked (holding false 0 []) 0x0D [47#8, 25#8, 0#8, 255#8])) = [5#8] ∧
      reply (after .carCap (asked (holding true 1 []) 0x0D [6#8, 25#8, 0#8, 5#8])) = [0#8, 0#8] ∧
      reply (after .carCap (asked (holding true 0 []) 0x0D [6#8, 25#8, 0#8, 5#8])) = [0#8, 1#8] ∧
      fullPool.poolInUse = 40 ∧ reply (after .carCap (asked fullPool 0x0D [6#8, 25#8, 0#8, 5#8])) = [6#8] := by
  decide +kernel

/-- CAR_TEXT for a slot with a gate byte, a level, a budget and characters. -/
def carText (slot gate level budget : Byte) (chars : List Byte) : List Byte :=
  [slot, gate, level, budget, BitVec.ofNat 8 chars.length] ++ chars

theorem witness_CarTextIsQueuedOrHeld :
    let s := holding false 0 []
    (asked s 0x0E (carText 6#8 255#8 5#8 2#8 [0x41#8])).Takes 0x0E 7 (6#8 :: 255#8 :: 5#8 :: 2#8 :: 1#8 :: [0x41#8]) ∧
      reply (after .carText (asked s 0x0E (carText 6#8 255#8 5#8 2#8 [0x41#8]))) = [0#8, 1#8] ∧
      (after .carText (asked s 0x0E (carText 6#8 255#8 5#8 2#8 [0x41#8]))).queue[(5 : Fin 8)] =
        [idle (.text 6 { text20 with chars := [0x41#8], seq := 1 })] ∧
      reply (after .carText (asked s 0x0E (carText 6#8 255#8 1#8 4#8 [0x7F#8]))) = [1#8, 1#8] ∧
      reply (after .carText (asked s 0x0E (carText 6#8 255#8 5#8 2#8 []))) = [4#8] ∧
      reply (after .carText (asked s 0x0E (carText 6#8 255#8 5#8 2#8 (List.replicate 41 0x41#8)))) = [4#8] ∧
      reply (after .carText (asked s 0x0E (carText 6#8 255#8 5#8 2#8 (List.replicate 40 0x41#8)))) = [0#8, 1#8] ∧
      reply (after .carText (asked s 0x0E (carText 0#8 255#8 5#8 2#8 [0x41#8]))) = [5#8] ∧
      reply (after .carText (asked fullPool 0x0E (carText 6#8 255#8 5#8 2#8 [0x41#8]))) = [6#8] ∧
      (((after .carText (asked s 0x0E (carText 6#8 5#8 5#8 2#8 [0x41#8]))).gate 5).hold.length = 1) ∧
      (((after .carText (asked (holding true 1 []) 0x0E (carText 6#8 5#8 5#8 2#8 [0x41#8]))).gate 5).credit = 0) := by
  decide +kernel

/-- Slot 6 holds two texts, one in a gate, and a context. -/
def leaving : State :=
  at_ ((holding false 0 [.text 6 { text20 with seq := 1 }]).setEng .B
    { airA (.poll 1) with ctx := Engine.cold false |>.ctx.set 0 { Ctx.free with owner := some 6 } })
    5 [idle (.text 6 text20)]

theorem witness_CarDropRemovesTheCar :
    (asked leaving 0x0F [6#8]).Takes 0x0F 7 [6#8] ∧ (leaving.car 6).present = true ∧
      (leaving.eng .B).contextOf 6 = some 0 ∧ (leaving.car 47).present = false ∧
      reply (after .carDrop (asked leaving 0x0F [48#8])) = [4#8] ∧
      reply (after .carDrop (asked leaving 0x0F [47#8])) = [5#8] ∧
      (after .carDrop (asked leaving 0x0F [6#8])).car 6 = Car.free ∧
      (after .carDrop (asked leaving 0x0F [6#8])).link.outbox.drop 1 =
        [.textEnd 6 2 .cancelled, .textEnd 6 1 .cancelled] := by decide +kernel

theorem witness_leaving_cars_own_one_context : leaving.OneContextEach ∧ base.OneContextEach := by
  refine ⟨?_, ?_⟩ <;> (intro X; cases X <;> decide +kernel)

/-! ## Joining -/

/-- Unit 0x4A2E01 asks on line B; with `n` ASSIGNs queued for other units. -/
def asking (n : Nat) : State :=
  at_ { base with asks := [{ unitId := 0x4A2E01, line := .B, cyclesLeft := 1 }] } 2
    ((List.range n).map fun k => idle (.assign { unitId := k + 1, line := .A, outcome := .full }))

def unitBytes : List Byte := [0x01#8, 0x2E#8, 0x4A#8]

/-- Every slot holds a car. -/
def fullRoster (s : State) : State := { s with cars := Vector.replicate 48 (heardAt 1 0) }

theorem witness_AdmitFillsTheLowestSlot :
    (asked (asking 3) 0x13 unitBytes).Takes 0x13 7 unitBytes ∧
      (asking 3).asks.find? (fun a => a.unitId == 0x4A2E01) = some { unitId := 0x4A2E01, line := .B, cyclesLeft := 1 } ∧
      (asking 3).assignCount = 3 ∧ (asking 3).lowestFree = some 0 ∧
      reply (after .admitUnit (asked (asking 3) 0x13 unitBytes)) = [0#8, 0#8] ∧
      (after .admitUnit (asked (asking 0) 0x13 unitBytes)).queue[(2 : Fin 8)] =
        [idle (.assign { unitId := 0x4A2E01, line := .B, outcome := .room 1 })] ∧
      reply (after .admitUnit (asked (asking 4) 0x13 unitBytes)) = [6#8] ∧
      reply (after .admitUnit (asked base 0x13 unitBytes)) = [10#8] ∧
      reply (after .admitUnit (asked (asking 0) 0x13 [0#8, 0#8, 0#8])) = [4#8] ∧
      (fullRoster (asking 0)).lowestFree = none ∧
      reply (after .admitUnit (asked (fullRoster (asking 0)) 0x13 unitBytes)) = [0#8, 255#8] := by decide +kernel

theorem witness_AdmissionSetsTheModeAndRefuseTellsFull :
    (asked base 0x12 [0#8]).Takes 0x12 7 [0#8] ∧
      (after .admission (asked base 0x12 [0#8])).admission = .opened ∧
      (after .admission (asked base 0x12 [1#8])).admission = .closed ∧
      reply (after .admission (asked base 0x12 [2#8])) = [4#8] ∧
      (asked (asking 3) 0x14 unitBytes).Takes 0x14 7 unitBytes ∧
      (after .refuse (asked (asking 3) 0x14 unitBytes)).asks = [] ∧
      (after .refuse (asked (asking 0) 0x14 unitBytes)).queue[(2 : Fin 8)] =
        [idle (.assign { unitId := 0x4A2E01, line := .B, outcome := .full })] ∧
      reply (after .refuse (asked (asking 4) 0x14 unitBytes)) = [6#8] ∧
      reply (after .refuse (asked base 0x14 unitBytes)) = [10#8] ∧
      reply (after .refuse (asked (asking 0) 0x14 [255#8, 255#8, 255#8])) = [4#8] := by decide +kernel

/-! ## Slots and bursts -/

/-- The poll of car `i` in the slot in progress, its window from 6,412 to 8,987. -/
def pollOf (i : CarIx) (full windowOpen : Bool) : PollSlot :=
  { car := i, grant := .awake, full := full, windowStart := 6412, windowEnd := 8987, windowOpen := windowOpen, gain := 8,
    fate := .served }

def listening (r : Ranging) (windowOpen : Bool) : State :=
  base.setEng .A { airA (.poll 1) with poll := some (pollOf 3 false windowOpen), ranging := r }

def running : Ranging := { Ranging.idle with running := true }

theorem witness_ReceiversTakeTheFirstBurst :
    ((listening running true).eng .A).poll = some (pollOf 3 false true) ∧
      ((listening running true).eng .A).ranging.captured = none ∧
      (after (.replyEdgeCapture .A 6412) (listening running true)).lineA.ranging.captured = some (6412, 0) ∧
      (after (.replyEdgeCapture .A 8987) (listening running true)).lineA.ranging.captured = some (795, 1) ∧
      (after (.replyEdgeCapture .A 6411) (listening running true)).lineA.ranging.captured = none ∧
      (after (.replyEdgeCapture .A 8988) (listening running true)).lineA.ranging.captured = none ∧
      (after (.replyWindowEnd .A) (listening running true)).lineA.poll = some (pollOf 3 false false) ∧
      (let s := listening { running with captured := some (494, 1) } true
       (after (.levelReport .A 5#6) s).lineA.ranging.level = some 5 ∧
        (after (.levelReport .A 6#6) (after (.levelReport .A 5#6) s)).lineA.ranging.level = some 5 ∧
        (after (.burstTrailingEdge .A 1800 [true]) s).lineA.ranging.body = some [true] ∧
        (after (.replyEdgeCapture .A 6500) s).lineA.ranging.captured = some (494, 1)) ∧
      (let s := base.setEng .A { airA (.join 1) with listening := true }
       (after (.joinEdge .A) s).lineA.joinRx = some { width := 0, bits := none } ∧
        (after (.burstTrailingEdge .A 16384 []) (after (.joinEdge .A) s)).lineA.joinRx =
          some { width := 16383, bits := some [] }) := by decide +kernel

/-- The next slot of line A is poll slot 1; slot 3 has a POLL and a DRIVE. -/
def beforePoll : State :=
  at_ (at_ ((onAir .mark).setCar 3 (heardOnA 1 (-500))) 4 [idle (.poll 3)]) 7 [idle (.drive 3)]

theorem witness_PollSlotSendsTheFirstPoll :
    beforePoll.nextSlot .A = some (.poll 1) ∧ (beforePoll.eng .A).burst = none ∧
      (beforePoll.eng .A).restartPending = false ∧ 0 < LineParams.default.vf ∧
      beforePoll.FirstWith (beforePoll.pollEligible .A) (idle (.poll 3)) ∧
      (∀ e ∈ (onAir .mark).entries, (onAir .mark).pollEligible .A e = false) ∧
      ((after (.pollSlotStart .A) beforePoll).lineA.burst.map (·.kind)) =
        some (.poll (some { cap := 255, seq := 1, grant := .awake, release := false })) ∧
      (after (.pollSlotStart .A) beforePoll).queue[(7 : Fin 8)] = [mine (.drive 3)] := by
  refine ⟨by decide +kernel, by decide, by decide, by decide, ⟨[], [idle (.drive 3)], ?_, ?_, ?_⟩, ?_, ?_, ?_⟩ <;>
    decide +kernel

theorem witness_ContextsAreOwnedFreeOrEvicted :
    (sixOwned.eng .B).contextOf 8 = some 1 ∧ (∀ k, (sixOwned.context .B k).owner ≠ some 40) ∧
      (∀ k, (sixOwned.context .B k).owner ≠ none) ∧ (∀ k, (base.context .B k).owner ≠ some 40) ∧
      (base.context .B 0).owner = none ∧ base.chooseContext .B 40 = 0 := by decide +kernel

theorem witness_six_owned_contexts_are_one_each : sixOwned.OneContextEach := by
  intro X; cases X <;> decide +kernel

theorem witness_PollBurstOpensTheWindow :
    let s := base.setEng .A
      { airA (.poll 1) with
        burst := some { kind := .poll none, bits := [] }
        poll := some { pollOf 3 false false with grant := .light } }
    (s.eng .A).burst = some { kind := .poll none, bits := [] } ∧
      (after (.pollBurstComplete .A) s).lineA.ranging.running = true ∧
      (after (.pollBurstComplete .A) s).lineA.traffic = true := by decide +kernel

/-- Engine A sends slot 3 a drive word of cap 40, alone or on a POLL. -/
def sending (b : BurstKind) (cap : Nat) : State :=
  at_ ((base.setEng .A
      { airA (.command 1) with burst := some { kind := b, bits := [] }, poll := some (pollOf 3 false false) }).setCar 3
    { heardOnA 1 (-500) with headCap := cap, effectiveCap := cap, driveSeqSent := 3 }) 1 [mine (.drive 3)]

def word40 : DriveWord := { cap := 40, seq := 4, grant := .awake, release := true }

theorem witness_DriveWordIsRecorded :
    (sending (.drive word40) 40).driveEngaged .A = some 3 ∧
      ((after (.driveWordSent .A) (sending (.drive word40) 40)).car 3).driveSeqSent = 4 ∧
      ((after (.driveWordSent .A) (sending (.drive word40) 40)).car 3).release = .sent ∧
      (after (.driveWordSent .A) (sending (.drive word40) 40)).queue[(1 : Fin 8)] = [] ∧
      (after (.driveWordSent .A) (sending (.drive word40) 30)).queue[(1 : Fin 8)] = [idle (.drive 3)] ∧
      ((sending (.poll (some word40)) 40).eng .A).poll = some (pollOf 3 false false) ∧
      ((after (.pollBurstComplete .A) (sending (.poll (some word40)) 40)).car 3).capSent = 40 := by decide +kernel

/-- Engine A sends a fragment of slot 6's text of 3 fragments. -/
def texting (next : Nat) (seat : Option LineId) : State :=
  at_ ((base.setEng .A { airA (.command 1) with burst := some { kind := .text, bits := [] } }).setCar 6
    (heardOnA 1 (-500))) 5 [mine (.text 6 { text20 with next := next, seat := seat })]

theorem witness_TextFragmentIsCounted :
    (texting 2 (some .A)).textEngaged .A = some (6, { text20 with next := 2, seat := some .A }) ∧
      text20.fragments = 3 ∧
      (after (.textFragmentSent .A) (texting 1 (some .A))).queue[(5 : Fin 8)] =
        [idle (.text 6 { text20 with next := 2, seat := some .A })] ∧
      (after (.textFragmentSent .A) (texting 2 (some .A))).queue[(5 : Fin 8)] = [] ∧
      (((after (.textFragmentSent .A) (texting 2 (some .A))).car 6).textAwait.map (·.seq)) = some 2 ∧
      (after (.textFragmentSent .A) (texting 0 none)).queue[(5 : Fin 8)] = [idle (.text 6 text20)] ∧
      (let gone := (texting 1 (some .A)).dropEntries fun _ => true
       gone.lineA.burst = some { kind := .text, bits := [] } ∧ gone.entries = [] ∧
        (after (.textFragmentSent .A) gone).lineA.traffic = true) := by decide +kernel

theorem witness_AssignAndMarkAreSent :
    let e := airA (.command 1)
    let s := at_ (base.setEng .A { e with burst := some { kind := .assign, bits := [] } }) 2
      [mine (.assign { unitId := 9, line := .A, outcome := .full })]
    let m := base.setEng .A { e with state := .quiet, slot := .mark, burst := some { kind := .mark, bits := [] } }
    (s.eng .A).burst = some { kind := .assign, bits := [] } ∧ (after (.assignSent .A) s).queue[(2 : Fin 8)] = [] ∧
      (m.eng .A).burst = some { kind := .mark, bits := [] } ∧ (m.eng .A).state = .quiet ∧
      (m.eng .A).restOut = false ∧ ((after (.markBurstComplete .A) m).eng .A).restOut = true := by decide +kernel

/-- The next slot of line A is command slot 1, with one entry. -/
def beforeCommand (l : Fin 8) (j : Job) : State := at_ ((onAir (.poll 12)).setEng .A
  { airA (.poll 12) with slotOver := true } |>.setCar 3 (heardOnA 1 (-500))) l [idle j]

theorem witness_CommandSlotSendsTheFirstEntry :
    (beforeCommand 1 (.drive 3)).nextSlot .A = some (.command 1) ∧
      ((beforeCommand 1 (.drive 3)).eng .A).burst = none ∧
      (∀ e ∈ (beforeCommand 4 (.poll 3)).entries, (beforeCommand 4 (.poll 3)).commandEligible .A e = false) ∧
      (beforeCommand 1 (.drive 3)).FirstWith ((beforeCommand 1 (.drive 3)).commandEligible .A) (idle (.drive 3)) ∧
      (beforeCommand 5 (.text 3 text20)).FirstWith ((beforeCommand 5 (.text 3 text20)).commandEligible .A)
        (idle (.text 3 text20)) ∧
      (after (.commandSlotStart .A) (beforeCommand 5 (.text 3 text20))).queue[(5 : Fin 8)] =
        [mine (.text 3 { text20 with seat := some .A })] ∧
      ((after (.commandSlotStart .A) (beforeCommand 2 (.assign { unitId := 9, line := .A, outcome := .full }))).lineA.burst.map
        (·.kind)) = some .assign := by
  refine ⟨by decide +kernel, by decide, by decide +kernel, ⟨[], [], ?_, ?_, ?_⟩, ⟨[], [], ?_, ?_, ?_⟩, ?_, ?_⟩ <;>
    decide +kernel

/-- R47 to R49: what shuts an entry out of a command slot. -/
theorem witness_command_slots_shut_entries_out :
    let d := idle (.drive 3)
    let s := beforeCommand 1 (.drive 3)
    let quiet := s.setEng .A { s.lineA with state := .quiet }
    let halted : State := { s with halt := { s.halt with latch := true } }
    let older := { text20 with stamp := 1 }
    let seated := { text20 with seat := some .A, stamp := 4 }
    s.commandEligible .A d = true ∧ quiet.commandEligible .A d = false ∧ halted.commandEligible .A d = false ∧
      quiet.nextSlot .A = some (.command 1) ∧ (after (.commandSlotStart .A) quiet).lineA.burst = none ∧
      (after (.commandSlotStart .A) halted).lineA.burst = none ∧
      s.commandEligible .A { d with engaged := some .B } = false ∧
      (s.setCar 3 { s.car 3 with listening := false }).commandEligible .A d = false ∧
      (at_ s 5 [idle (.text 3 text20), idle (.text 3 older)]).commandEligible .A (idle (.text 3 text20)) = true ∧
      (at_ s 5 [idle (.text 3 text20), idle (.text 3 older)]).commandEligible .A (idle (.text 3 older)) = false ∧
      (at_ s 5 [idle (.text 3 text20), idle (.text 9 seated)]).seat .A = some (9, seated) ∧
      (at_ s 5 [idle (.text 3 text20), idle (.text 9 seated)]).commandEligible .A (idle (.text 3 text20)) = false := by
  decide +kernel

/-- Join slot 1 of line A is in progress; a burst of that width and those bits has been received. -/
def joined (width : Nat) (bits : Bits) : State :=
  base.setEng .A { airA (.join 1) with joinRx := some { width := width, bits := some bits } }

def joinBits (u : Nat) : Bits := withCheck (toBits 3 5 ++ toBits 24 u)

theorem witness_JoinSlotsListenWhenOpen :
    let s := base.setEng .A { airA (.command 6) with joinOpen := true }
    s.nextSlot .A = some (.join 1) ∧ (s.eng .A).burst = none ∧ (after (.joinSlotStart .A) s).lineA.listening = true ∧
      (joined 1621 (joinBits 9)).inJoinSlot .A = true ∧ 1500 + LineParams.default.widthTol < 1621 ∧
      readJoin [true] = none ∧ (after (.joinSlotEnd .A 0 []) (joined 1621 (joinBits 9))).asks = [] ∧
      (after (.joinSlotEnd .A 0 []) (joined 1500 [true])).asks = [] := by decide +kernel

theorem witness_HeardJoinIsTaken :
    (joined 1620 (joinBits 16777214)).inJoinSlot .A = true ∧
      ((joined 1380 (joinBits 1)).eng .A).joinRx =
        some { width := 1380, bits := some (withCheck (toBits 3 5 ++ toBits 24 1)) } ∧
      (joined 1380 (joinBits 1)).carOfUnit 1 = none ∧ (joined 1380 (joinBits 1)).admission = .closed ∧
      (after (.joinSlotEnd .A 0 []) (joined 1380 (joinBits 1))).asks = [{ unitId := 1, line := .A, cyclesLeft := 20 }] ∧
      (let s : State := { joined 1500 (joinBits 9) with asks := [{ unitId := 9, line := .B, cyclesLeft := 3 }] }
       (after (.joinSlotEnd .A 0 []) s).asks = s.asks) ∧
      (let s : State := { joined 1500 (joinBits 9) with admission := .opened }
       ((after (.joinSlotEnd .A 0 []) s).car 0).unitId = 9 ∧
        (after (.joinSlotEnd .A 0 []) (fullRoster s)).queue[(2 : Fin 8)] =
          [idle (.assign { unitId := 9, line := .A, outcome := .full })]) ∧
      (let s := (joined 1500 (joinBits 9)).setCar 3 { heardAt 9 700 with headCap := 60, effectiveCap := 60 }
       s.carOfUnit 9 = some 3 ∧ s.assignCount = 0 ∧
        ((after (.joinSlotEnd .A 0 []) s).car 3).state = .joining ∧
        ((after (.joinSlotEnd .A 0 []) s).car 3).headCap = 60 ∧
        ((after (.joinSlotEnd .A 0 []) s).car 3).home = .a) := by decide +kernel

/-- R38, R45, R72: a JOIN still in progress at the end of its slot, an invalid unit, and four ASSIGNs. -/
theorem witness_joins_in_progress_and_ignored :
    let going : State := base.setEng .A { airA (.join 1) with joinRx := some { width := 9, bits := none } }
    let full (k : Nat) : State := at_ { joined 1500 (joinBits 9) with admission := .opened } 2
      ((List.range 4).map fun n => idle (.assign { unitId := n + k, line := .B, outcome := .full }))
    (after (.joinSlotEnd .A 1500 (joinBits 9)) going).asks = [{ unitId := 9, line := .A, cyclesLeft := 20 }] ∧
      (after (.joinSlotEnd .A 1379 (joinBits 9)) going).asks = [] ∧
      (after (.joinSlotEnd .A 0 []) (joined 1500 (joinBits 0))).asks = [] ∧
      (after (.joinSlotEnd .A 0 []) (joined 1500 (joinBits 0))).lineA.breakPending = true ∧
      (after (.joinSlotEnd .A 0 []) (joined 1500 (joinBits 16777215))).asks = [] ∧
      (full 1).assignCount = 4 ∧ ((after (.joinSlotEnd .A 0 []) (full 1)).car 0).present = false ∧
      ((after (.joinSlotEnd .A 0 []) (full 9)).car 0).unitId = 9 ∧
      (after (.joinSlotEnd .A 0 []) (full 9)).queue[(2 : Fin 8)].head? =
        some (idle (.assign { unitId := 9, line := .A, outcome := .room 1 })) := by decide +kernel

theorem witness_join_slots_own_one_context : (joined 1500 (joinBits 9)).OneContextEach := by
  intro X; cases X <;> decide +kernel

/-- A short reply of address 4: AWAKE, speed 40, no faults, echo 4, acknowledgement of seq 2. -/
def replyBits (address echo : Nat) : Bits :=
  withCheck (toBits 3 3 ++ (toBits 6 address ++ toBits 2 0 ++ toBits 8 40 ++ toBits 2 0 ++ toBits 3 echo ++ [true] ++
    toBits 2 2))

/-- The poll slot of slot 3 with a capture at (count, overflow), a width, bits and a level. -/
def heardReply (count overflow width : Nat) (bits : Bits) (level : Option Nat) : Ranging :=
  { running with captured := some (count, overflow), width := width, body := some bits, level := level }

def classOf (r : Ranging) (fate : PollFate) : SlotClass :=
  classify LineParams.default { pollOf 3 false false with fate := fate } r r.width (r.body.getD [])

theorem witness_SlotClassFollowsTheTable :
    classOf running .gone = .noResult ∧ classOf running .rejoined = .miss .noEdge ∧
      classOf running .served = .miss .noEdge ∧
      classOf (heardReply 6594 0 1921 (replyBits 4 4) (some 4)) .served = .miss .clash ∧
      classOf (heardReply 6594 0 1679 (replyBits 4 4) (some 4)) .served = .miss .clash ∧
      classOf (heardReply 6594 0 1920 [true] (some 4)) .served = .miss .garbled ∧
      classOf (heardReply 6594 0 1680 (replyBits 5 4) (some 4)) .served = .miss .clash ∧
      classOf (heardReply 30 2 1800 (replyBits 4 4) (some 4)) .served = .miss .far ∧
      classOf (heardReply 6594 0 1800 (replyBits 4 4) (some 3)) .served = .miss .faint ∧
      (readReply false (replyBits 4 4)).isSome = true ∧
      classOf (heardReply 494 1 1800 (replyBits 4 4) (some 4)) .served =
        .valid 494 1 4
          { address := 4, doze := .awake, speed := 40, faults := .none, echo := 4, ackValid := true, ackSeq := 2,
            extra := none } := by decide +kernel

/-- Bits written as digits. -/
def ofDigits (digits : String) : Bits := digits.toList.map (· == '1')

theorem witness_BurstsAreLaidOutAndReadBack :
    word40.cap < 256 ∧ word40.seq < 8 ∧ word40.value < 2 ^ 20 ∧
      (readReply true (withCheck (toBits 3 4 ++ (toBits 6 63 ++ toBits 2 3 ++ toBits 8 255 ++ toBits 2 3 ++ toBits 3 7 ++
        [true] ++ toBits 2 3) ++ toBits 7 127 ++ toBits 16 65535))).map (·.extra) = some (some (127, 65535)) ∧
      readReply true (replyBits 4 4) = none := by decide +kernel

/-- R64 to R68: the bodies of "a text giving way" and others, written out from the layout. -/
theorem witness_bodies_are_laid_out :
    markBody .B 500 { polls := 12, commands := 6, joins := 2, slotLen := 40 } false true =
        ofDigits "000" ++ ofDigits "1" ++ ofDigits "0000000111110100" ++ ofDigits "01100" ++ ofDigits "00110" ++
          ofDigits "010" ++ ofDigits "0101000" ++ ofDigits "01" ∧
      pollBody 4 .deep true (some word40) =
        ofDigits "001" ++ ofDigits "000100" ++ ofDigits "1011" ++ ofDigits "00101000100001110101" ∧
      driveBody 12 word40 = ofDigits "010" ++ ofDigits "001100" ++ ofDigits "00" ++ ofDigits "00101000100001110101" ∧
      textBody 7 { text20 with next := 2 } =
        ofDigits "010" ++ ofDigits "000111" ++ ofDigits "01" ++ ofDigits "10" ++ ofDigits "010" ++ ofDigits "011" ++
          ofDigits "0100" ++ ofDigits "1000001100000110000011000001" ∧
      assignBody { unitId := 9, line := .A, outcome := .room 48 } =
        ofDigits "010" ++ ofDigits "000000" ++ ofDigits "10" ++ ofDigits "000000000000000000001001" ++ ofDigits "110000" ∧
      text20.chars.length = 20 ∧ (∀ c ∈ text20.chars, c.toNat < 128) := by decide +kernel

/-- R105 to R108, R114, R8 at their boundaries. -/
theorem witness_PlacesFollowTheRanges :
    (1 : Nat) ≤ WayParams.default.motion ∧ measured [2427, 2084, 2467] 2467 = 2427 ∧ measured [2401, 2427] 2427 = 2427 ∧
      LineParams.default.newPlace .B (some ⟨-7, .B⟩) (-20) = -10 ∧
      LineParams.default.newPlace .B (some ⟨0, .A⟩) 20 = 20 ∧
      LineParams.default.newPlace .B (some ⟨30001, .B⟩) 20 = 20 ∧
      newDirection 2 .still 40 (some ⟨0, .B⟩) 2 false = .pos ∧ newDirection 2 .neg 40 (some ⟨0, .B⟩) 1 false = .neg ∧
      newDirection 2 .still 40 (some ⟨0, .B⟩) (-2) false = .neg ∧ newDirection 2 .pos 40 none 9 false = .pos ∧
      newDirection 2 .pos 40 (some ⟨0, .B⟩) (-9) true = .pos ∧ newDirection 2 .pos 0 (some ⟨0, .B⟩) 9 false = .still ∧
      twoLines.homeAt ⟨-300, .A⟩ = .both ∧ twoLines.homeAt ⟨-301, .B⟩ = .a ∧ twoLines.homeAt ⟨301, .A⟩ = .b ∧
      lastSlot.inService .B = false ∧ lastSlot.homeAt ⟨0, .B⟩ = .b := by decide +kernel

/-- R148, R149, R88 at their boundaries. -/
theorem witness_GrantsAndGainFollowTheReply :
    sleepy.dozeCeiling 0 = .parked ∧
      ({ sleepy with halt := { sleepy.halt with latch := true } } : State).dozeCeiling 0 = .light ∧
      lastSlot.dozeCeiling 0 = .awake ∧ (at_ sleepy 5 [idle (.text 0 text20)]).dozeCeiling 0 = .awake ∧
      (at_ sleepy 2 [idle (.assign { unitId := 1, line := .A, outcome := .room 1 })]).dozeCeiling 0 = .awake ∧
      grantFor .deep 2 3 = .light ∧ grantFor .deep 3 3 = .deep ∧ grantFor .light 0 3 = .light ∧
      adjustGain 8 49 = 7 ∧ adjustGain 8 48 = 8 ∧ adjustGain 8 16 = 8 ∧ adjustGain 8 15 = 9 ∧ adjustGain 15 0 = 15 ∧
      adjustGain 0 63 = 0 := by decide +kernel

/-- Line A's poll slot 1 has polled slot 3; what it received, the car and its context are given. -/
def slotOf (r : Ranging) (c : Car) (x : Ctx) : State :=
  at_ ((base.setEng .A
      { airA (.poll 1) with
        poll := some (pollOf 3 false false), ranging := r
        ctx := (Engine.cold false).ctx.set 0 { x with owner := some 3 } }).setCar 3 c) 4 [mine (.poll 3)]

theorem witness_MissedPollIsCounted :
    let c := heardOnA 1 (-500)
    let s := slotOf running c Ctx.free
    s.inPollSlot .A = true ∧ (s.eng .A).burst = none ∧ (s.eng .A).restartPending = false ∧
      (s.eng .A).poll = some (pollOf 3 false false) ∧ s.slotClass .A (pollOf 3 false false) 0 [] = .miss .noEdge ∧
      (onAir (.poll 1)).inPollSlot .A = true ∧ ((onAir (.poll 1)).eng .A).poll = none ∧
      (s.eng .A).contextOf 3 = some 0 ∧
      ((after (.pollSlotEnd .A 0 []) s).car 3).state = .missing ∧
      ((after (.pollSlotEnd .A 0 []) (slotOf running { c with missCount := 6 } Ctx.free)).car 3).state = .missing ∧
      ((after (.pollSlotEnd .A 0 []) (slotOf running { c with missCount := 7 } Ctx.free)).car 3).state = .lost ∧
      (after (.pollSlotEnd .A 0 []) (slotOf running { c with missCount := 7 } Ctx.free)).link.outbox.drop 1 =
        [.carLost 3 1 .misses] ∧
      ((after (.pollSlotEnd .A 0 []) (slotOf running { c with state := .joining, missCount := 7 } Ctx.free)).car 3) =
        Car.free := by decide +kernel

/-- R36, R160: a car that is gone leaves no result; a miss at the end of a slot with a restart pending counts first. -/
theorem witness_gone_cars_and_pending_restarts :
    let c := heardOnA 1 (-500)
    let s := slotOf running c Ctx.free
    let gone : State := s.setEng .A { s.lineA with poll := some { pollOf 3 false false with fate := .gone } }
    let pending : State := s.setEng .A { s.lineA with restartPending := true }
    (gone.eng .A).poll = some { pollOf 3 false false with fate := .gone } ∧
      (after (.pollSlotEnd .A 0 []) gone).cars = gone.cars ∧ (after (.pollSlotEnd .A 0 []) gone).lineA.slotOver = true ∧
      pending.slotClass .A (pollOf 3 false false) 0 [] = .miss .noEdge ∧
      ((after (.pollSlotEnd .A 0 []) pending).car 3).missCount = 1 ∧
      ((after (.pollSlotEnd .A 0 []) pending).car 3).state = .missing ∧
      (after (.pollSlotEnd .A 0 []) pending).lineA.slot = .mark := by decide +kernel

/-- "Filtering a car", reply 1, on line A with latency 0: E 6,182 gives 2,401 dm from a place of -2,380. -/
def answering (c : Car) (echo : Nat) : State := slotOf (heardReply 6182 0 1800 (replyBits 4 echo) (some 20)) c Ctx.free

theorem witness_ValidReplyUpdatesTheRecord :
    let c := { heardOnA 1 (-2380) with driveSeqSent := 4, capSent := 60, release := .sent }
    let s := answering c 4
    let w : TextAwait := { seq := 2, waited := 0, budget := 1, level := 5, chars := [0x41#8], stamp := 0 }
    s.inPollSlot .A = true ∧ (s.eng .A).burst = none ∧ (s.eng .A).restartPending = false ∧
      s.slotClass .A (pollOf 3 false false) 0 [] =
        .valid 6182 0 20
          { address := 4, doze := .awake, speed := 40, faults := .none, echo := 4, ackValid := true, ackSeq := 2,
            extra := none } ∧
      (let t := after (.pollSlotEnd .A 0 []) s
       (t.car 3).position = some { dm := -2385, line := .A } ∧ (t.car 3).direction = .neg ∧
        (t.car 3).confirmedCap = 60 ∧ (t.car 3).release = .none ∧ (t.car 3).state = .heard ∧
        (t.context .A 0).mode = .narrow ∧ (t.context .A 0).history = [2401] ∧ t.queue[(4 : Fin 8)] = []) ∧
      ((after (.pollSlotEnd .A 0 []) (answering { c with textAwait := some w } 4)).link.outbox.drop 1) =
        [.textEnd 3 2 .delivered] ∧
      (((after (.pollSlotEnd .A 0 []) (answering { c with textAwait := some { w with seq := 1 } } 4)).car 3).textAwait.map
        (·.waited)) = some 1 ∧
      (after (.pollSlotEnd .A 0 []) (answering { c with textAwait := some { w with seq := 1, waited := 2 } } 4)).queue[
        (5 : Fin 8)] = [idle (.text 3 { w.retry with seq := 1, budget := 0 })] ∧
      ((after (.pollSlotEnd .A 0 [])
        (answering { c with textAwait := some { w with seq := 1, waited := 2, budget := 0 } } 4)).link.outbox.drop 1) =
        [.textEnd 3 1 .failed] ∧
      ((after (.pollSlotEnd .A 0 []) (answering { c with state := .joining } 4)).link.outbox.drop 1) =
        [.carJoin .admitted (some 3) 1 (some .A)] ∧
      ((after (.pollSlotEnd .A 0 []) (answering { c with state := .lost } 4)).link.outbox.drop 1) = [.carFound 3 1 .A] ∧
      (after (.pollSlotEnd .A 0 []) (answering c 5)).hasDrive 3 = true := by decide +kernel

/-- R142: the gates of the reply, of the stop and of the zone entered open; another car's gate does not. -/
theorem witness_replies_open_gates :
    let gate (src : Source) : Gate := { source := src, credit := 0, banking := true, placement := .tail, hold := [] }
    let s := (((answering (heardOnA 1 (-2380)) 4).setGate 0 (gate (.carHeard 3))).setGate 1
      (gate (.carHeard 4))).setGate 2 (gate (.carInZone 3 0))
    let z : State := { s with zones := s.zones.set 0 { lo := -2400, hi := -2000, cap := 30, enabled := true } }
    let t := after (.pollSlotEnd .A 0 []) z
    (t.gate 0).credit = 1 ∧ (t.gate 1).credit = 0 ∧ (t.gate 2).credit = 1 ∧ (t.car 3).zoneCap = 30 := by decide +kernel

/-! ## The invariants -/

/-- Reset meets every invariant, and a step follows it. -/
theorem witness_invariants_hold_at_reset :
    State.reset.GatesOrderly ∧ State.reset.LatchHasCause ∧ State.reset.AssignsBounded ∧ State.reset.AsksOrderly ∧
      State.reset.OutboxBounded ∧ State.reset.CapsLowest := by
  refine ⟨?_, ?_, ?_, ?_, ?_, ?_⟩ <;> decide +kernel

theorem witness_lines_are_orderly_at_reset :
    State.reset.RestingContextsFree ∧ State.reset.OneContextEach ∧ State.reset.UncertaintyBounded := by
  refine ⟨?_, ?_, ?_, ?_⟩
  · intro X; cases X <;> decide +kernel
  · intro X; cases X <;> decide +kernel
  · decide +kernel
  · intro X; cases X <;> decide +kernel

/-- A roster with a car, a text, a held text and a context. -/
theorem witness_leaving_is_orderly : leaving.NoTraceOfFreeSlots ∧ leaving.UnitsOrderly := by
  refine ⟨⟨by decide +kernel, by decide +kernel, ?_, ?_⟩, by decide +kernel, by decide +kernel, by decide +kernel⟩
  · intro X; cases X <;> decide +kernel
  · intro X q h
    have : (leaving.eng X).poll = none := by cases X <;> decide +kernel
    rw [this] at h
    cases h

/-- A queue with one entry of each kind. -/
def crowded : State :=
  at_ (at_ (at_ leaving 4 [idle (.poll 6)]) 7 [idle (.drive 6)]) 2
    [idle (.assign { unitId := 9, line := .A, outcome := .room 7 })]

theorem witness_crowded_queue :
    crowded.entries = [idle (.assign { unitId := 9, line := .A, outcome := .room 7 }), idle (.poll 6),
      idle (.text 6 text20), idle (.drive 6)] := by decide +kernel

theorem witness_crowded_is_orderly : crowded.QueueOrderly ∧ crowded.SourcesPresent := by
  refine ⟨⟨by decide +kernel, by decide +kernel, fun u => ?_, by decide +kernel⟩, by decide +kernel⟩
  rw [witness_crowded_queue]
  by_cases h : 9 = u <;> simp [Entry.isAssignFor, idle, h]

theorem witness_crowded_has_no_trace : crowded.NoTraceOfFreeSlots := by
  refine ⟨by decide +kernel, by decide +kernel, ?_, ?_⟩
  · intro X; cases X <;> decide +kernel
  · intro X q h
    have : (crowded.eng X).poll = none := by cases X <;> decide +kernel
    rw [this] at h
    cases h

theorem witness_a_step_follows_a_queue : step { crowded with pending := [.cycleEnd .A] } =
    .next (after (.cycleEnd .A) crowded) := by rfl

theorem witness_a_step_follows_reset : step State.reset = .next (ticked State.reset) := rfl

theorem witness_a_step_follows_a_car : step { lastSlot with pending := [.cycleEnd .A] } =
    .next (after (.cycleEnd .A) lastSlot) := by rfl

end Sys2Proof.Tests
end

section
/-! SUPPORT. How a request is taken (R168): the frame leaves the buffer, the action answers, the reply is placed. Every
request's proof begins with these. -/

namespace Sys2Proof.Machine

/-- A request of the right kind and size, with a tag, comes to its action (R168). -/
theorem take_checked {s : State} {kind tag : Nat} {p : List Byte} (h : s.Takes kind tag p) {sizeOk : List Byte → Bool}
    (hsize : sizeOk p = true) (act : Act) :
    s.take (ofKind kind) (checked sizeOk act) =
      (act p s.popFrame).1.placeReply (replyTo { kind := kind, tag := tag, payload := p } (act p s.popFrame).2) := by
  obtain ⟨⟨hreply, hframe⟩, htag⟩ := h
  simp [State.take, State.oldestRequest, hreply, hframe, ofKind, checked, hsize, htag]

theorem replyTo_eq_replyFrame (kind tag : Nat) (p : List Byte) (a : Answer) :
    replyTo { kind := kind, tag := tag, payload := p } a = replyFrame kind tag a.code a.contents := rfl

/-! Taking the frame and placing the reply touch the link alone. -/

@[simp] theorem popFrame_zones (s : State) : s.popFrame.zones = s.zones := rfl
@[simp] theorem popFrame_way (s : State) : s.popFrame.way = s.way := rfl
@[simp] theorem popFrame_asks (s : State) : s.popFrame.asks = s.asks := rfl
@[simp] theorem popFrame_admission (s : State) : s.popFrame.admission = s.admission := rfl
@[simp] theorem popFrame_halt (s : State) : s.popFrame.halt = s.halt := rfl
@[simp] theorem popFrame_pending (s : State) : s.popFrame.pending = s.pending := rfl
@[simp] theorem popFrame_car (s : State) (i : CarIx) : s.popFrame.car i = s.car i := rfl
@[simp] theorem popFrame_eng (s : State) (X : LineId) : s.popFrame.eng X = s.eng X := with_link_eng ..
@[simp] theorem popFrame_context (s : State) (X : LineId) (k : Fin 6) : s.popFrame.context X k = s.context X k := by
  simp [State.context]
@[simp] theorem popFrame_gate (s : State) (g : Fin 8) : s.popFrame.gate g = s.gate g := rfl
@[simp] theorem popFrame_textsOf (s : State) (i : CarIx) : s.popFrame.textsOf i = s.textsOf i := rfl
@[simp] theorem popFrame_textOrder (s : State) (i : CarIx) : s.popFrame.textOrder i = s.textOrder i := rfl
@[simp] theorem popFrame_heldTexts (s : State) (i : CarIx) : s.popFrame.heldTexts i = s.heldTexts i := rfl
theorem popFrame_oneContextEach {s : State} (h : s.OneContextEach) : s.popFrame.OneContextEach := by
  simpa only [State.OneContextEach, popFrame_context] using h

@[simp] theorem placeReply_zones (s : State) (f : Frame) : (s.placeReply f).zones = s.zones := rfl
@[simp] theorem placeReply_way (s : State) (f : Frame) : (s.placeReply f).way = s.way := rfl
@[simp] theorem placeReply_asks (s : State) (f : Frame) : (s.placeReply f).asks = s.asks := rfl
@[simp] theorem placeReply_admission (s : State) (f : Frame) : (s.placeReply f).admission = s.admission := rfl
@[simp] theorem placeReply_halt (s : State) (f : Frame) : (s.placeReply f).halt = s.halt := rfl
@[simp] theorem placeReply_pending (s : State) (f : Frame) : (s.placeReply f).pending = s.pending := rfl
@[simp] theorem placeReply_car (s : State) (f : Frame) (i : CarIx) : (s.placeReply f).car i = s.car i := rfl
@[simp] theorem placeReply_eng (s : State) (f : Frame) (X : LineId) : (s.placeReply f).eng X = s.eng X := with_link_eng ..
@[simp] theorem placeReply_context (s : State) (f : Frame) (X : LineId) (k : Fin 6) :
    (s.placeReply f).context X k = s.context X k := by simp [State.context]
@[simp] theorem placeReply_gate (s : State) (f : Frame) (g : Fin 8) : (s.placeReply f).gate g = s.gate g := rfl
@[simp] theorem placeReply_entries (s : State) (f : Frame) : (s.placeReply f).entries = s.entries := rfl
@[simp] theorem placeReply_textsOf (s : State) (f : Frame) (i : CarIx) : (s.placeReply f).textsOf i = s.textsOf i := rfl
@[simp] theorem placeReply_outbox (s : State) (f : Frame) : (s.placeReply f).link.outbox = s.link.outbox := rfl

/-- A refusal answers and changes nothing else (R168). -/
theorem placeReply_refuse (s : State) (kind tag : Nat) (p : List Byte) (c : Code) :
    (s.popFrame.refuse c).1.placeReply (replyTo { kind := kind, tag := tag, payload := p } (s.popFrame.refuse c).2) =
      s.answered kind tag c [] := rfl

/-- An action that keeps the link, but for notices, is answered by the reply that is placed. -/
theorem answers_placeReply {s u : State} (h : s.popFrame.LinkKept u) (kind tag : Nat) (code : Code) (contents : List Byte) :
    s.Answers (u.placeReply (replyFrame kind tag code contents)) kind tag code contents := by
  simp only [State.Answers, State.placeReply]
  rw [h]
  rfl

/-- A slot number past 47 names no car (R168, check 4). -/
theorem withCar_outside {slot : Byte} (h : 48 ≤ slot.toNat) (p : List Byte) (s : State) (act : CarIx → State × Answer) :
    withCar (slot :: p) s act = s.refuse .badArg := by
  simp [withCar, byteAt, carOfNat, Nat.not_lt.mpr h]

/-- A slot number up to 47 names its car, which a FREE slot does not hold (R168). -/
theorem withCar_slot {slot : Byte} {i : CarIx} (h : slot.toNat = i.val) (p : List Byte) (s : State)
    (act : CarIx → State × Answer) :
    withCar (slot :: p) s act = if (s.car i).present then act i else s.refuse .noCar := by
  simp [withCar, byteAt, carOfNat, h]

end Sys2Proof.Machine
end

section
/-! SUPPORT. What notices do to the link, and what stays in the queue beside the entries that an operation moves. -/

namespace Sys2Proof.Machine

/-! ## Notices -/

theorem linkKept_refl (s : State) : s.LinkKept s := rfl

theorem linkKept_trans {s t u : State} (hst : s.LinkKept t) (htu : t.LinkKept u) : s.LinkKept u := by
  rw [State.LinkKept, htu, hst]

theorem linkKept_notify (s : State) (n : Notice) : s.LinkKept (s.notify n) := by
  obtain ⟨l, b, h, -⟩ := notify_frame s.link n
  simp [State.LinkKept, State.notify, h]

theorem outbox_grows_notify (s : State) (n : Notice) : s.link.outbox <+: (s.notify n).link.outbox := by
  obtain ⟨l, b, h, -, -, hgrows⟩ := notify_frame s.link n
  simpa [State.notify, h] using hgrows

/-- A fold of notices over the part is the fold over its link. -/
theorem link_foldl_notify {α : Type} (f : α → Notice) (l : List α) (s : State) :
    (l.foldl (fun s a => s.notify (f a)) s).link = l.foldl (fun k a => k.notify (f a)) s.link :=
  (List.foldl_hom State.link fun _ _ => rfl).symm

theorem linkKept_foldl_notify {α : Type} (f : α → Notice) (l : List α) (s : State) :
    s.LinkKept (l.foldl (fun s a => s.notify (f a)) s) :=
  foldl_keeps s.LinkKept _ (fun _ _ h => linkKept_trans h (linkKept_notify _ _)) l s (linkKept_refl s)

/-- A notice does not read the complete frames. -/
theorem notify_with_complete (k : Link) (c : List Frame) (n : Notice) :
    ({ k with complete := c } : Link).notify n = { k.notify n with complete := c } := by
  simp only [Link.notify]
  split
  · split <;> rfl
  · rfl

theorem foldl_notify_with_complete {α : Type} (f : α → Notice) (l : List α) (k : Link) (c : List Frame) :
    l.foldl (fun k a => k.notify (f a)) { k with complete := c } =
      { l.foldl (fun k a => k.notify (f a)) k with complete := c } :=
  List.foldl_hom (g₁ := fun k a => k.notify (f a)) (fun k : Link => { k with complete := c })
    fun _ _ => notify_with_complete ..

/-- Notices come to the same outbox whether or not the request's frame has left the buffer. -/
theorem foldl_notify_popFrame_outbox {α : Type} (f : α → Notice) (l : List α) (s : State) :
    (l.foldl (fun k a => k.notify (f a)) s.popFrame.link).outbox = (l.foldl (fun k a => k.notify (f a)) s.link).outbox :=
  (congrArg Link.outbox (foldl_notify_with_complete f l s.link s.link.complete.tail) :)

/-! ## The queue beside some entries -/

theorem mem_entries {s : State} {e : Entry} : e ∈ s.entries ↔ ∃ l : Fin 8, e ∈ s.queue[l] := by
  simp only [State.entries, List.mem_flatten, Vector.mem_toList_iff, Vector.mem_iff_getElem]
  constructor
  · rintro ⟨_, ⟨l, hl, rfl⟩, he⟩
    exact ⟨⟨l, hl⟩, he⟩
  · rintro ⟨l, he⟩
    exact ⟨_, ⟨l, l.isLt, rfl⟩, he⟩

/-- What stands in the queue and is not among the entries `p` stood there before. -/
theorem mem_entries_of_queueKeptBut {s t : State} {p : Entry → Bool} (h : s.QueueKeptBut t p) {e : Entry}
    (he : e ∈ t.entries) : p e = true ∨ e ∈ s.entries := by
  by_cases hp : p e = true
  · exact .inl hp
  · obtain ⟨l, hl⟩ := mem_entries.mp he
    have hkept : e ∈ t.queue[l].filter fun e => !p e := List.mem_filter.mpr ⟨hl, by simpa using hp⟩
    rw [h l] at hkept
    exact .inr (mem_entries.mpr ⟨l, List.mem_of_mem_filter hkept⟩)

/-- The order of the entries beside `p` is kept over the whole queue. -/
theorem filter_entries_of_queueKeptBut {s t : State} {p : Entry → Bool} (h : s.QueueKeptBut t p) :
    (t.entries.filter fun e => !p e) = s.entries.filter fun e => !p e := by
  have hmap : t.queue.map (List.filter fun e => !p e) = s.queue.map (List.filter fun e => !p e) := by
    ext1 l hl
    simpa using h ⟨l, hl⟩
  simpa only [State.entries, List.filter_flatten, Vector.toList_map] using congrArg (fun q => q.toList.flatten) hmap

/-- A car's texts are kept by what moves none of its TEXTs. -/
theorem textsOf_of_queueKeptBut {s t : State} {p : Entry → Bool} (h : s.QueueKeptBut t p) {i : CarIx}
    (hp : ∀ e, p e = true → e.isTextOf i = false) : t.textsOf i = s.textsOf i := by
  have hskip : ∀ u : State, u.textsOf i = (u.entries.filter fun e => !p e).filterMap fun e => match e.job with
      | .text j x => if j == i then some x else none
      | _ => none := by
    intro u
    rw [List.filterMap_filter]
    refine List.filterMap_congr fun e _ => ?_
    cases hpe : p e with
    | false => rfl
    | true =>
      have := hp e hpe
      simp only [Entry.isTextOf] at this
      split at this <;> simp_all
  rw [hskip t, hskip s, filter_entries_of_queueKeptBut h]

theorem queueKeptBut_trans {s t u : State} {p : Entry → Bool} (hst : s.QueueKeptBut t p) (htu : t.QueueKeptBut u p) :
    s.QueueKeptBut u p := fun l => (htu l).trans (hst l)

theorem queueKeptBut_of_queue_eq {s t : State} (h : t.queue = s.queue) (p : Entry → Bool) : s.QueueKeptBut t p := by
  simp [State.QueueKeptBut, h]

theorem queueKeptBut_putTail (s : State) (l : Fin 8) {p : Entry → Bool} {e : Entry} (he : p e = true) :
    s.QueueKeptBut (s.putTail l e) p := by
  intro k
  by_cases h : l = k
  · subst h
    simp [State.putTail, he]
  · have h' : (l : Nat) ≠ (k : Nat) := fun e => h (Fin.ext e)
    simp [State.putTail, Vector.getElem_set_ne, h']

theorem queueKeptBut_dropEntries (s : State) (p : Entry → Bool) : s.QueueKeptBut (s.dropEntries p) p := by
  intro l
  simp [State.dropEntries, State.mapLevels, List.filter_filter]

theorem mem_entries_dropEntries {s : State} {p : Entry → Bool} {e : Entry} :
    e ∈ (s.dropEntries p).entries ↔ e ∈ s.entries ∧ p e = false := by
  simp [mem_entries, State.dropEntries, State.mapLevels]

theorem queueKeptBut_moveToTail (s : State) (p : Entry → Bool) (l : Fin 8) : s.QueueKeptBut (s.moveToTail p l) p := by
  have hput : ∀ (es : List Entry) (u : State), (∀ e ∈ es, p e = true) → s.QueueKeptBut u p →
      s.QueueKeptBut (es.foldl (fun u e => u.putTail l e) u) p := by
    intro es
    induction es with
    | nil => exact fun u _ hu => hu
    | cons e es ih =>
      intro u hes hu
      exact ih _ (fun x hx => hes x (.tail e hx))
        (queueKeptBut_trans hu (queueKeptBut_putTail u l (hes e (.head es))))
  exact hput _ _ (fun e he => (List.mem_filter.mp he).2) (queueKeptBut_dropEntries s p)

/-- Ensuring a DRIVE moves or adds DRIVEs of that car alone (R44). -/
theorem queueKeptBut_ensureDrive (s : State) (i : CarIx) (urgent : Bool) :
    s.QueueKeptBut (s.ensureDrive i urgent) (Entry.isDriveOf i) := by
  unfold State.ensureDrive
  split
  · exact queueKeptBut_trans (queueKeptBut_putTail s _ (by simp [Entry.isDriveOf]))
      (queueKeptBut_of_queue_eq (judge_queue ..) _)
  · dsimp only
    split
    · exact queueKeptBut_trans (queueKeptBut_moveToTail s _ _) (queueKeptBut_of_queue_eq (judge_queue ..) _)
    · exact queueKeptBut_of_queue_eq rfl _

theorem isTextOf_of_isDriveOf {e : Entry} {i j : CarIx} (h : e.isDriveOf i = true) : e.isTextOf j = false := by
  unfold Entry.isDriveOf at h
  unfold Entry.isTextOf
  split at h <;> simp_all

end Sys2Proof.Machine
end

section
/-! SUPPORT. The gap evaluation (R129 to R131): which cars it reaches, and what it does to a car, the queue and the link. -/

namespace Sys2Proof.Machine

/-! ## One car's limit -/

theorem recompute_car_self (s : State) (i : CarIx) :
    (s.recompute i).car i = { s.car i with effectiveCap := (s.car i).lowestCap } := by
  unfold State.recompute
  split
  · next h => rw [h]
  · simp

theorem recompute_car_ne (s : State) {i j : CarIx} (h : j ≠ i) : (s.recompute i).car j = s.car j := by
  unfold State.recompute
  split
  · rfl
  · simp [car_modCar_ne s h]

theorem queueKeptBut_recompute (s : State) (i : CarIx) : s.QueueKeptBut (s.recompute i) (Entry.isDriveOf i) := by
  unfold State.recompute
  split
  · exact queueKeptBut_of_queue_eq rfl _
  · exact queueKeptBut_ensureDrive _ i false

/-- Taking a limit replaces the car's gap cap, queues at most one notice, and recomputes the effective cap (R128 to R131). -/
theorem takeLimit_cases (s : State) (i : CarIx) (limit : Nat) : ∃ cap,
    s.takeLimit i limit = (s.modCar i fun c => { c with gapCap := cap }).recompute i ∨
      ∃ n, s.takeLimit i limit = ((s.modCar i fun c => { c with gapCap := cap }).notify n).recompute i := by
  refine ⟨nextGapCap s.way.hysteresis (s.car i).gapCap limit, ?_⟩
  unfold State.takeLimit
  dsimp only
  split
  · exact .inr ⟨_, rfl⟩
  · exact .inl rfl

theorem takeLimit_car_ne (s : State) {i j : CarIx} (h : j ≠ i) (limit : Nat) : (s.takeLimit i limit).car j = s.car j := by
  obtain ⟨cap, ht | ⟨n, ht⟩⟩ := takeLimit_cases s i limit <;> simp [ht, recompute_car_ne _ h, car_modCar_ne _ h]

theorem takeLimit_car_self (s : State) (i : CarIx) (limit : Nat) : ∃ cap,
    (s.takeLimit i limit).car i =
      { s.car i with
        gapCap := cap
        effectiveCap := min (min (s.car i).headCap (s.car i).zoneCap) (cap.getD 255) } := by
  obtain ⟨cap, ht | ⟨n, ht⟩⟩ := takeLimit_cases s i limit <;>
    exact ⟨cap, by simp [ht, recompute_car_self, Car.lowestCap]⟩

theorem queueKeptBut_takeLimit (s : State) (i : CarIx) (limit : Nat) :
    s.QueueKeptBut (s.takeLimit i limit) (Entry.isDriveOf i) := by
  obtain ⟨cap, ht | ⟨n, ht⟩⟩ := takeLimit_cases s i limit <;> rw [ht] <;> exact queueKeptBut_recompute _ i

theorem linkKept_takeLimit (s : State) (i : CarIx) (limit : Nat) : s.LinkKept (s.takeLimit i limit) := by
  obtain ⟨cap, ht | ⟨n, ht⟩⟩ := takeLimit_cases s i limit
  · rw [State.LinkKept, ht, recompute_link, modCar_link]
  · simpa [State.LinkKept, ht] using linkKept_notify (s.modCar i fun c => { c with gapCap := cap }) n

theorem outbox_grows_takeLimit (s : State) (i : CarIx) (limit : Nat) :
    s.link.outbox <+: (s.takeLimit i limit).link.outbox := by
  obtain ⟨cap, ht | ⟨n, ht⟩⟩ := takeLimit_cases s i limit
  · simp [ht]
  · simpa [ht] using outbox_grows_notify (s.modCar i fun c => { c with gapCap := cap }) n

/-! ## The whole way -/

theorem mem_insertByPlace {s : State} {i j : CarIx} {l : List CarIx} : j ∈ s.insertByPlace i l ↔ j = i ∨ j ∈ l := by
  induction l with
  | nil => simp [State.insertByPlace]
  | cons k l ih =>
    simp only [State.insertByPlace]
    split
    · simp [ih, or_left_comm]
    · simp

/-- The way order holds the cars that have a place (R117). -/
theorem mem_wayOrder {s : State} {i : CarIx} : i ∈ s.wayOrder ↔ (s.placeOf i).isSome := by
  have hfold : ∀ cars l : List CarIx, i ∈ cars.foldl (fun l j => s.insertByPlace j l) l ↔ i ∈ cars ∨ i ∈ l := by
    intro cars
    induction cars with
    | nil => simp
    | cons j cars ih => intro l; simp [ih, mem_insertByPlace, or_assoc, or_left_comm]
  simp [State.wayOrder, hfold, allCars]

theorem present_of_mem_wayOrder {s : State} {i : CarIx} (h : i ∈ s.wayOrder) : (s.car i).present = true := by
  by_contra hfree
  simp [mem_wayOrder, State.placeOf, hfree] at h

theorem map_fst_limitsAlong (s : State) (before : Option CarIx) (l : List CarIx) :
    (s.limitsAlong before l).map (·.1) = l := by
  induction l generalizing before with
  | nil => rfl
  | cons i l ih => simp [State.limitsAlong, ih]

/-- What the taking of a limit keeps, for each car of the way order, the gap evaluation keeps (R129). -/
theorem evaluateGaps_keeps (P : State → Prop) {s : State} (hs : P s)
    (h : ∀ u i limit, i ∈ s.wayOrder → P u → P (u.takeLimit i limit)) : P s.evaluateGaps := by
  refine foldl_keeps P _ (fun u i hu => ?_) _ s hs
  split
  · next limit hlookup =>
    obtain ⟨l₁, l₂, hlimits, -⟩ := List.lookup_eq_some_iff.mp hlookup
    have hmem : i ∈ (s.limitsAlong none s.wayOrder).map (·.1) := by simp [hlimits]
    rw [map_fst_limitsAlong] at hmem
    exact h u i limit hmem hu
  · exact hu

/-- A FREE slot takes no part in a gap evaluation. -/
theorem evaluateGaps_car_free {s : State} {i : CarIx} (h : (s.car i).present = false) : s.evaluateGaps.car i = s.car i :=
  evaluateGaps_keeps (fun u => u.car i = s.car i) rfl fun u j limit hj hu => by
    have hne : i ≠ j := by
      rintro rfl
      exact absurd (present_of_mem_wayOrder hj) (by simp [h])
    rw [takeLimit_car_ne u hne, hu]

/-- A gap evaluation changes the gap cap and the effective cap of a car, and nothing else of it (R129, R131). -/
theorem evaluateGaps_car (s : State) (i : CarIx) : ∃ gap eff,
    s.evaluateGaps.car i = { s.car i with gapCap := gap, effectiveCap := eff } :=
  evaluateGaps_keeps (fun u => ∃ gap eff, u.car i = { s.car i with gapCap := gap, effectiveCap := eff }) ⟨_, _, rfl⟩
    fun u j limit _ ⟨gap, eff, hu⟩ => by
      by_cases hij : i = j
      · subst hij
        obtain ⟨cap, h⟩ := takeLimit_car_self u i limit
        exact ⟨cap, _, by rw [h, hu]⟩
      · exact ⟨gap, eff, by rw [takeLimit_car_ne u hij, hu]⟩

/-- A gap evaluation adds to the queue DRIVEs of cars of the way order, and nothing else (R130, R131). -/
theorem mem_entries_evaluateGaps {s : State} {e : Entry} (he : e ∈ s.evaluateGaps.entries) :
    e ∈ s.entries ∨ ∃ i ∈ s.wayOrder, e.isDriveOf i = true :=
  evaluateGaps_keeps (fun u => ∀ e ∈ u.entries, e ∈ s.entries ∨ ∃ i ∈ s.wayOrder, e.isDriveOf i = true)
    (fun _ h => .inl h)
    (fun u i limit hi hu e he => by
      rcases mem_entries_of_queueKeptBut (queueKeptBut_takeLimit u i limit) he with hdrive | hold
      · exact .inr ⟨i, hi, hdrive⟩
      · exact hu e hold) e he

theorem evaluateGaps_textsOf (s : State) (i : CarIx) : s.evaluateGaps.textsOf i = s.textsOf i :=
  evaluateGaps_keeps (fun u => u.textsOf i = s.textsOf i) rfl fun u j limit _ hu =>
    (textsOf_of_queueKeptBut (queueKeptBut_takeLimit u j limit) fun _ h => isTextOf_of_isDriveOf h).trans hu

theorem linkKept_evaluateGaps (s : State) : s.LinkKept s.evaluateGaps :=
  evaluateGaps_keeps s.LinkKept (linkKept_refl s) fun u i limit _ hu => linkKept_trans hu (linkKept_takeLimit u i limit)

theorem outbox_grows_evaluateGaps (s : State) : s.link.outbox <+: s.evaluateGaps.link.outbox :=
  evaluateGaps_keeps (fun u => s.link.outbox <+: u.link.outbox) (List.prefix_refl _)
    fun u i limit _ hu => hu.trans (outbox_grows_takeLimit u i limit)

end Sys2Proof.Machine
end

section
/-! SUPPORT. The removal of a car (R17, R94, R145): what it does before its gap evaluation, and with it. -/

namespace Sys2Proof.Machine

/-! ## Contexts -/

/-- The engine with the context of car `i` freed, if it has one (R94). -/
def Engine.forget (e : Engine) (i : CarIx) : Engine :=
  match e.contextOf i with
  | some k => e.setContext k Ctx.free
  | none => e

/-- Of an engine, only contexts change. -/
theorem Engine.forget_eq (e : Engine) (i : CarIx) : e.forget i = { e with ctx := (e.forget i).ctx } := by
  unfold Engine.forget
  split <;> rfl

theorem owner_of_contextOf {e : Engine} {i : CarIx} {k : Fin 6} (h : e.contextOf i = some k) :
    (e.context k).owner = some i := by
  simpa using List.find?_some h

theorem owner_ne_of_contextOf_none {e : Engine} {i : CarIx} (h : e.contextOf i = none) (k : Fin 6) :
    (e.context k).owner ≠ some i := by
  simpa using List.find?_eq_none.mp h k (List.mem_finRange k)

/-- A car that owns one context at most leaves none behind, and the others stand as they stood (R81, R94). -/
theorem context_forget {e : Engine} {i : CarIx}
    (hone : ∀ k l, (e.context k).owner = some i → (e.context l).owner = some i → k = l) (k : Fin 6) :
    (e.forget i).context k = if (e.context k).owner = some i then Ctx.free else e.context k := by
  unfold Engine.forget
  split
  · next l hl =>
    by_cases hk : k = l
    · subst hk
      simp [owner_of_contextOf hl]
    · rw [context_setContext_ne e hk, if_neg fun h => hk (hone k l h (owner_of_contextOf hl))]
  · next hnone => rw [if_neg (owner_ne_of_contextOf_none hnone k)]

/-- An update that keeps the engine keeps the part. -/
theorem modEng_of_eq {s : State} {X : LineId} {f : Engine → Engine} (h : f (s.eng X) = s.eng X) : s.modEng X f = s := by
  simp [State.modEng, h]

theorem forgetContexts_eq (s : State) (i : CarIx) :
    s.forgetContexts i =
      ((s.modEng .A (·.forget i)).modEng .B (·.forget i)).modCar i fun c => { c with parkedA := none, parkedB := none } := by
  have hfree : ∀ (u : State) (X : LineId), (match (u.eng X).contextOf i with
      | some k => u.setContext X k Ctx.free
      | none => u) = u.modEng X (·.forget i) := by
    intro u X
    cases h : (u.eng X).contextOf i with
    | some k => simp [State.setContext, State.modEng, Engine.forget, h]
    | none => exact (modEng_of_eq (by simp [Engine.forget, h])).symm
  rw [← hfree (s.modEng .A _) .B, ← hfree s .A]
  rfl

@[simp] theorem forgetContexts_eng (s : State) (i : CarIx) (X : LineId) :
    (s.forgetContexts i).eng X = (s.eng X).forget i := by
  cases X <;> simp [forgetContexts_eq]

theorem forgetContexts_car_ne (s : State) {i j : CarIx} (h : j ≠ i) : (s.forgetContexts i).car j = s.car j := by
  simp [forgetContexts_eq, car_modCar_ne _ h]

/-! ## The poll slot in progress -/

/-- The engine with its poll slot's fate noted, when the slot is of car `i` and the car is not gone (R18, R94). -/
def Engine.markPoll (e : Engine) (i : CarIx) (fate : PollFate) : Engine :=
  { e with poll := e.poll.map fun q => if q.car = i ∧ q.fate ≠ .gone then { q with fate := fate } else q }

theorem Engine.markPoll_of_poll_eq {e : Engine} {i : CarIx} {fate : PollFate}
    (h : (e.poll.map fun q => if q.car = i ∧ q.fate ≠ .gone then { q with fate := fate } else q) = e.poll) :
    e.markPoll i fate = e := by
  rw [Engine.markPoll, h]

theorem markPoll_eq (s : State) (i : CarIx) (fate : PollFate) :
    s.markPoll i fate = (s.modEng .A (·.markPoll i fate)).modEng .B (·.markPoll i fate) := by
  have hmark : ∀ (u : State) (X : LineId), (match (u.eng X).poll with
      | some q =>
        if q.car = i ∧ q.fate ≠ .gone then u.modEng X fun e => { e with poll := some { q with fate := fate } } else u
      | none => u) = u.modEng X (·.markPoll i fate) := by
    intro u X
    cases h : (u.eng X).poll with
    | some q =>
      by_cases hq : q.car = i ∧ q.fate ≠ .gone
      · simp [State.modEng, Engine.markPoll, h, hq]
      · rw [modEng_of_eq (Engine.markPoll_of_poll_eq (by simp [h, hq]))]
        exact if_neg hq
    | none => exact (modEng_of_eq (Engine.markPoll_of_poll_eq (by simp [h]))).symm
  rw [← hmark (s.modEng .A _) .B, ← hmark s .A]
  rfl

@[simp] theorem markPoll_eng (s : State) (i : CarIx) (fate : PollFate) (X : LineId) :
    (s.markPoll i fate).eng X = (s.eng X).markPoll i fate := by
  cases X <;> simp [markPoll_eq]

/-- Engines that agree but for the break-pending flag. -/
theorem Engine.eq_of_unbroken_eq {e f : Engine} (h : e.unbroken = f.unbroken) :
    e = { f with breakPending := e.breakPending } := by
  cases e
  cases f
  simpa [Engine.unbroken] using h

/-! ## The removal before its gap evaluation -/

/-- The entries that leave the queue with car `i` (R17). -/
def Entry.goesWith (i : CarIx) (e : Entry) : Bool := e.job.carOf == some i || e.isRoomOf i

/-- `u` is `s` with car `i` taken out and a TEXT_END cancelled for each seq of `ended`, the gaps not yet evaluated (R17). -/
structure State.TakenOut (s u : State) (i : CarIx) (ended : List Nat) : Prop where
  car_self : u.car i = Car.free
  car_ne : ∀ j, j ≠ i → u.car j = s.car j
  queue : u.queue = (s.dropEntries (Entry.goesWith i)).queue
  gates : u.gates = s.gates.map (Gate.without i)
  eng : ∀ X, u.eng X = ((s.eng X).forget i).markPoll i .gone
  link : u.link = ended.foldl (fun k seq => k.notify (.textEnd i seq .cancelled)) s.link

theorem goesWith_of_isDriveOf {e : Entry} {i j : CarIx} (h : e.isDriveOf j = true) (hj : j ≠ i) : e.goesWith i = false := by
  unfold Entry.isDriveOf at h
  split at h
  · next k hjob => simp_all [Entry.goesWith, Job.carOf, Entry.isRoomOf]
  · cases h

theorem isTextOf_of_goesWith {e : Entry} {i j : CarIx} (h : e.goesWith i = true) (hj : j ≠ i) : e.isTextOf j = false := by
  unfold Entry.isTextOf
  split
  · next k x hjob =>
    have hk : k = i := by simpa [Entry.goesWith, Entry.isRoomOf, hjob, Job.carOf] using h
    simpa [hk] using hj.symm
  · rfl

/-- A removal takes the car out and then evaluates the gaps (R17). -/
theorem removeCar_eq_evaluateGaps (s : State) (i : CarIx) (cancel : Bool) : ∃ u,
    s.removeCar i cancel = u.evaluateGaps ∧
      s.TakenOut u i (if cancel then s.textOrder i ++ s.heldTexts i else []) := by
  unfold State.removeCar
  refine ⟨_, rfl, ?_⟩
  constructor
  case car_self => exact car_setCar ..
  case car_ne =>
    intro j hj
    rw [car_setCar_ne _ hj, markPoll_car, forgetContexts_car_ne _ hj]
    exact car_congr (foldl_notify_cars ..) j
  case queue =>
    simp only [setCar_queue, markPoll_queue, forgetContexts_queue]
    exact foldl_notify_queue ..
  case gates => simp
  case eng =>
    intro X
    rw [setCar_eng, markPoll_eng, forgetContexts_eng, with_gates_eng, foldl_notify_eng, dropEntries_eng]
  case link =>
    simp only [setCar_link, markPoll_link, forgetContexts_link]
    exact link_foldl_notify ..

/-! ## The removal with its gap evaluation -/

theorem removeCar_car_self (s : State) (i : CarIx) (cancel : Bool) : (s.removeCar i cancel).car i = Car.free := by
  obtain ⟨u, hu, h⟩ := removeCar_eq_evaluateGaps s i cancel
  rw [hu, evaluateGaps_car_free (by rw [h.car_self]; rfl), h.car_self]

/-- The other cars keep all but their gap and effective caps (R17, R129). -/
theorem removeCar_car_ne (s : State) {i j : CarIx} (hj : j ≠ i) (cancel : Bool) : ∃ gap eff,
    (s.removeCar i cancel).car j = { s.car j with gapCap := gap, effectiveCap := eff } := by
  obtain ⟨u, hu, h⟩ := removeCar_eq_evaluateGaps s i cancel
  rw [hu, ← h.car_ne j hj]
  exact evaluateGaps_car u j

/-- No entry for the car is left, and the gap evaluation adds none (R17). -/
theorem goesWith_of_mem_removeCar {s : State} {i : CarIx} {cancel : Bool} {e : Entry}
    (he : e ∈ (s.removeCar i cancel).entries) : e.goesWith i = false := by
  obtain ⟨u, hu, h⟩ := removeCar_eq_evaluateGaps s i cancel
  rw [hu] at he
  rcases mem_entries_evaluateGaps he with hold | ⟨j, hj, hdrive⟩
  · rw [State.entries, h.queue] at hold
    exact (mem_entries_dropEntries.mp hold).2
  · have hji : j ≠ i := by
      rintro rfl
      exact absurd (present_of_mem_wayOrder hj) (by rw [h.car_self]; decide)
    exact goesWith_of_isDriveOf hdrive hji

theorem removeCar_textsOf (s : State) {i j : CarIx} (hj : j ≠ i) (cancel : Bool) :
    (s.removeCar i cancel).textsOf j = s.textsOf j := by
  obtain ⟨u, hu, h⟩ := removeCar_eq_evaluateGaps s i cancel
  have hqueue : u.textsOf j = (s.dropEntries (Entry.goesWith i)).textsOf j := by
    rw [State.textsOf, State.entries, h.queue]
    rfl
  rw [hu, evaluateGaps_textsOf, hqueue]
  exact textsOf_of_queueKeptBut (queueKeptBut_dropEntries s _) fun e he => isTextOf_of_goesWith he hj

theorem removeCar_gate (s : State) (i : CarIx) (cancel : Bool) (g : Fin 8) :
    (s.removeCar i cancel).gate g = (s.gate g).without i := by
  obtain ⟨u, hu, h⟩ := removeCar_eq_evaluateGaps s i cancel
  rw [hu, evaluateGaps_gate, State.gate, h.gates]
  simp [State.gate]

/-- Of a line, a removal changes contexts, the poll slot's fate and the break-pending flag (R17, R18, R152). -/
theorem removeCar_eng (s : State) (i : CarIx) (cancel : Bool) (X : LineId) : ∃ b,
    (s.removeCar i cancel).eng X = { ((s.eng X).forget i).markPoll i .gone with breakPending := b } := by
  obtain ⟨u, hu, h⟩ := removeCar_eq_evaluateGaps s i cancel
  refine ⟨_, Engine.eq_of_unbroken_eq ?_⟩
  rw [hu, evaluateGaps_unbroken, h.eng]

/-- The car's contexts are free on both lines, and the others stand as they stood (R94). -/
theorem removeCar_context {s : State} (hone : s.OneContextEach) (i : CarIx) (cancel : Bool) (X : LineId) (k : Fin 6) :
    (s.removeCar i cancel).context X k = if (s.context X k).owner = some i then Ctx.free else s.context X k := by
  have hown : ∀ k l, (s.context X k).owner = some i → (s.context X l).owner = some i → k = l :=
    fun k l hk hl => hone X k l (by simp [hk]) (hk.trans hl.symm)
  obtain ⟨b, heng⟩ := removeCar_eng s i cancel X
  rw [State.context, heng]
  exact context_forget hown k

theorem linkKept_removeCar (s : State) (i : CarIx) (cancel : Bool) : s.LinkKept (s.removeCar i cancel) := by
  obtain ⟨u, hu, h⟩ := removeCar_eq_evaluateGaps s i cancel
  rw [hu]
  refine linkKept_trans ?_ (linkKept_evaluateGaps u)
  rw [State.LinkKept, h.link, ← link_foldl_notify]
  exact linkKept_foldl_notify ..

/-- The TEXT_ENDs of a removal go before the CAP_CHANGEs of its gap evaluation (R17). -/
theorem outbox_grows_removeCar (s : State) (i : CarIx) :
    ((s.textOrder i ++ s.heldTexts i).foldl (fun k seq => k.notify (.textEnd i seq .cancelled)) s.link).outbox <+:
      (s.removeCar i true).link.outbox := by
  obtain ⟨u, hu, h⟩ := removeCar_eq_evaluateGaps s i true
  have hlink := h.link
  rw [if_pos rfl] at hlink
  rw [hu, ← hlink]
  exact outbox_grows_evaluateGaps u

end Sys2Proof.Machine
end

section
/-! CERTIFICATES of the family 01_car_roster.md. -/

namespace Sys2Proof.Machine

theorem execCarDrop_eq {s : State} {tag : Nat} {slot : Byte} (h : s.Takes 0x0F tag [slot]) :
    exec .carDrop s =
      .next ((actCarDrop [slot] s.popFrame).1.placeReply
        (replyTo { kind := 0x0F, tag := tag, payload := [slot] } (actCarDrop [slot] s.popFrame).2)) :=
  congrArg Host.Outcome.next (take_checked h rfl actCarDrop)

/-- CAR_DROP of a car in the roster removes it and answers DONE (R16). -/
theorem execCarDrop_present {s : State} {tag : Nat} {slot : Byte} (h : s.Takes 0x0F tag [slot]) {i : CarIx}
    (hi : slot.toNat = i.val) (hpresent : (s.car i).present = true) :
    exec .carDrop s = .next ((s.popFrame.removeCar i true).placeReply (replyFrame 0x0F tag .done [])) := by
  rw [execCarDrop_eq h, actCarDrop, withCar_slot hi, popFrame_car, if_pos hpresent, replyTo_eq_replyFrame,
    State.done]

/-- Settles O34: the removal's lemmas, one for each clause, under the reply. -/
theorem carDropRemovesTheCar : Obligations.CarDropRemovesTheCar := by
  unfold Obligations.CarDropRemovesTheCar
  intro tag slot s htakes
  refine ⟨fun hslot => ?outside, fun i hi => ⟨fun hfree => ?free, fun hpresent hone =>
    ⟨_, execCarDrop_present htakes hi hpresent, answers_placeReply (linkKept_removeCar ..) .., ?car,
      ?entries, ?gates, ?own, ?others, ?cars, ?lines, ?outbox, ?settings, ?asks, ?halt⟩⟩⟩
  case outside =>
    rw [execCarDrop_eq htakes, actCarDrop, withCar_outside hslot]
    exact congrArg _ (placeReply_refuse ..)
  case free =>
    rw [execCarDrop_eq htakes, actCarDrop, withCar_slot hi, popFrame_car, hfree, if_neg Bool.false_ne_true]
    exact congrArg _ (placeReply_refuse ..)
  case car => rw [placeReply_car, removeCar_car_self]
  case entries =>
    intro e he
    rw [placeReply_entries] at he
    simpa [Entry.goesWith] using goesWith_of_mem_removeCar he
  case gates =>
    intro g
    rw [placeReply_gate, removeCar_gate, popFrame_gate]
    exact ⟨List.filter_congr fun h _ => by rw [Bool.eq_iff_iff]; simp, rfl, rfl, rfl, rfl⟩
  case own =>
    intro X k hk
    rw [placeReply_context, removeCar_context (popFrame_oneContextEach hone), popFrame_context, if_pos hk]
  case others =>
    intro X k hk
    rw [placeReply_context, removeCar_context (popFrame_oneContextEach hone), popFrame_context, if_neg hk]
  case cars =>
    intro j hj
    obtain ⟨gap, eff, hcar⟩ := removeCar_car_ne s.popFrame hj true
    rw [placeReply_car, hcar, placeReply_textsOf, removeCar_textsOf _ hj]
    exact ⟨rfl, rfl⟩
  case lines =>
    intro X
    obtain ⟨b, heng⟩ := removeCar_eng s.popFrame i true X
    rw [placeReply_eng, heng, popFrame_eng, Engine.forget_eq]
    exact ⟨rfl, rfl, rfl, rfl⟩
  case outbox =>
    have hgrows := outbox_grows_removeCar s.popFrame i
    rw [popFrame_textOrder, popFrame_heldTexts, foldl_notify_popFrame_outbox] at hgrows
    rwa [placeReply_outbox]
  case settings => simp [State.SettingsKept]
  case asks => simp
  case halt => simp

end Sys2Proof.Machine
end

section
/-! SUPPORT. How a text enters the queue (R46, R140, R150): where its entry stands, and what becomes of the car. -/

namespace Sys2Proof.Machine

/-- A TEXT that enters the queue stands where its placement says (R46, R140). -/
theorem enterText_queue (s : State) (p : Placement) (i : CarIx) (x : Text) :
    (s.enterText p i x).queue =
      (s.put p x.level { job := .text i { x with stamp := s.nextStamp i }, engaged := none }).queue := by
  simp [State.enterText, State.queueText]

/-- A car granted more than AWAKE is woken (R150). -/
theorem wake_car_self (s : State) (i : CarIx) :
    (s.wake i).car i =
      if (s.car i).grantedDoze = .awake then s.car i
      else { s.car i with grantedDoze := .awake, lightRun := 0, listening := false } := by
  unfold State.wake
  split
  · rfl
  · simp

theorem wake_car_ne (s : State) {i j : CarIx} (h : j ≠ i) : (s.wake i).car j = s.car j := by
  unfold State.wake
  split
  · rfl
  · simp [car_modCar_ne s h]

/-- A TEXT that enters the queue stands where its placement says, last in the text order, and wakes its car (R46, R150). -/
theorem textEntered_enterText (s : State) (p : Placement) (i : CarIx) (x : Text) :
    s.TextEntered (s.enterText p i x) p i x := by
  refine ⟨?queue, ?self, fun j hj => ?others⟩
  case queue =>
    rw [enterText_queue]
    cases p <;> rfl
  case self => simp [State.enterText, State.queueText, wake_car_self]
  case others => simp [State.enterText, State.queueText, wake_car_ne _ hj]

/-- The place of the next text depends on the queue and the roster alone (R47). -/
theorem nextStamp_congr {s u : State} (hqueue : u.queue = s.queue) (hcars : u.cars = s.cars) (i : CarIx) :
    u.nextStamp i = s.nextStamp i := by
  simp only [State.nextStamp, State.textsOf, State.entries, hqueue, car_congr hcars]

/-- The entering of a text is read off the queue and the roster of both states. -/
theorem textEntered_congr {s u t v : State} (hqueue : u.queue = s.queue) (hcars : u.cars = s.cars)
    (hqueue' : v.queue = t.queue) (hcars' : v.cars = t.cars) {p : Placement} {i : CarIx} {x : Text}
    (h : u.TextEntered v p i x) : s.TextEntered t p i x := by
  simpa only [State.TextEntered, nextStamp_congr hqueue hcars, hqueue, car_congr hcars, hqueue', car_congr hcars'] using h

end Sys2Proof.Machine
end

section
/-! SUPPORT. CAR_TEXT (R46, R138): its clamps, its gate byte, its checks in order, and the way a text goes that passes
them. -/

namespace Sys2Proof.Machine

/-! ## The values -/

/-- The level of a text is clamped to 2 to 7 (R46). -/
theorem textLevel_val (n : Nat) : (textLevel n).val = max 2 (min 7 n) := by
  unfold textLevel
  split
  · simp; omega
  · split <;> simp <;> omega

/-- The text that a CAR_TEXT of a level, a budget and characters makes, with its values clamped (R46). -/
def clampedText (seq : Nat) (level budget : Byte) (chars : List Byte) : Text :=
  { level := textLevel level.toNat, chars := chars.map printable, next := 0, budget := min 3 budget.toNat, seq := seq,
    seat := none, stamp := 0 }

/-- DONE when nothing of the text was clamped (R46). -/
def textCode (level budget : Byte) (chars : List Byte) : Code :=
  if (textLevel level.toNat).val = level.toNat ∧ budget.toNat ≤ 3 ∧ chars.map printable = chars then .done
  else .doneClamped

/-- A text is clamped exactly when its level, its budget or a character is. -/
theorem doneOr_clamped (level budget : Byte) (chars : List Byte) :
    doneOr (decide ((textLevel level.toNat).val ≠ level.toNat) || decide (min 3 budget.toNat ≠ budget.toNat) ||
      chars.map printable != chars) = textCode level budget chars := by
  have hbudget : min 3 budget.toNat = budget.toNat ↔ budget.toNat ≤ 3 := by omega
  by_cases h : (textLevel level.toNat).val = level.toNat ∧ budget.toNat ≤ 3 ∧ chars.map printable = chars
  · obtain ⟨hlevel, hle, hchars⟩ := h
    simp [doneOr, textCode, hlevel, hle, hchars]
  · rw [textCode, if_neg h, doneOr, if_pos]
    simp only [Bool.or_eq_true, decide_eq_true_eq, bne_iff_ne, ne_eq, hbudget]
    tauto

/-! ## The gate byte -/

/-- The gate byte 255 says that the request has no gate (R138). -/
theorem gateByte_none : gateByte (255#8).toNat = some none := rfl

theorem gateByte_gate {gb : Byte} {g : Fin 8} (h : gb.toNat = g.val) : gateByte gb.toNat = some (some g) := by
  have hne : g.val ≠ 0xFF := by omega
  simp [gateByte, gateOfNat, h, hne]

theorem gateByte_outside {gb : Byte} (h : 8 ≤ gb.toNat) (hne : gb ≠ 255#8) : gateByte gb.toNat = none := by
  have hne' : gb.toNat ≠ 0xFF := fun e => hne (BitVec.eq_of_toNat_eq e)
  simp [gateByte, gateOfNat, hne', Nat.not_lt.mpr h]

theorem gateByte_valid {gb : Byte} (h : gb = 255#8 ∨ gb.toNat < 8) : ∃ gate, gateByte gb.toNat = some gate := by
  rcases h with rfl | hlt
  · exact ⟨none, gateByte_none⟩
  · exact ⟨some ⟨gb.toNat, hlt⟩, gateByte_gate rfl⟩

/-! ## The checks -/

theorem textSize_of_count {slot gb level budget count : Byte} {chars : List Byte} (h : count.toNat = chars.length) :
    textSize (slot :: gb :: level :: budget :: count :: chars) = true := by
  simp [textSize, byteAt, h]
  omega

/-- A slot past 47, a wrong number of characters and a gate byte that names no gate are BAD_ARG (R46, R138). -/
theorem actCarText_badArg {slot gb : Byte} {chars : List Byte}
    (h : 48 ≤ slot.toNat ∨ chars.length = 0 ∨ 40 < chars.length ∨ (8 ≤ gb.toNat ∧ gb ≠ 255#8))
    (level budget count : Byte) (s : State) :
    actCarText (slot :: gb :: level :: budget :: count :: chars) s = s.refuse .badArg := by
  by_cases hslot : 48 ≤ slot.toNat
  case pos => simp [actCarText, byteAt, carOfNat, Nat.not_lt.mpr hslot]
  have hcar : carOfNat slot.toNat = some ⟨slot.toNat, Nat.not_le.mp hslot⟩ := by simp [carOfNat, Nat.not_le.mp hslot]
  by_cases hlen : chars.length = 0 ∨ 40 < chars.length
  case pos => simp only [actCarText, byteAt, List.getD_cons_zero, List.drop_succ_cons, List.drop_zero, hcar, if_pos hlen]
  obtain ⟨hge, hne⟩ : 8 ≤ gb.toNat ∧ gb ≠ 255#8 := by tauto
  simp [actCarText, byteAt, hcar, gateByte_outside hge hne]

/-! ## The text that is taken -/

/-- The seq that the car's next text takes (R46). -/
def State.nextSeq (s : State) (i : CarIx) : Nat := ((s.car i).textSeq + 1) % 4

/-- The car's next seq is used up (R46). -/
def State.takeSeq (s : State) (i : CarIx) : State := s.modCar i fun c => { c with textSeq := s.nextSeq i }

/-- A text enters the queue at the tail of its level, at once or by a credit of its gate, or is held by the gate (R138). -/
def State.takeText (s : State) (i : CarIx) (x : Text) : Option (Fin 8) → State
  | none => s.enterText .tail i x
  | some g =>
    if 0 < (s.gate g).credit then
      (s.modGate g fun y => { y with credit := y.credit - 1 }).enterText .tail i x
    else s.modGate g fun y => { y with hold := y.hold ++ [.text i x] }

theorem takeText_none (s : State) (i : CarIx) (x : Text) : s.takeText i x none = s.enterText .tail i x := rfl

theorem takeText_credit {s : State} {g : Fin 8} (h : 0 < (s.gate g).credit) (i : CarIx) (x : Text) :
    s.takeText i x (some g) = (s.modGate g fun y => { y with credit := y.credit - 1 }).enterText .tail i x := if_pos h

theorem takeText_held {s : State} {g : Fin 8} (h : (s.gate g).credit = 0) (i : CarIx) (x : Text) :
    s.takeText i x (some g) = s.modGate g fun y => { y with hold := y.hold ++ [.text i x] } :=
  if_neg (by simp [h])

/-- What entering the queue and updating a gate keep, taking a text keeps. -/
theorem takeText_keeps (P : State → Prop) {s : State} {i : CarIx} {x : Text} (gate : Option (Fin 8)) (hs : P s)
    (henter : ∀ u, P u → P (u.enterText .tail i x)) (hgate : ∀ u g f, P u → P (u.modGate g f)) :
    P (s.takeText i x gate) := by
  cases gate with
  | none => exact henter s hs
  | some g =>
    rcases Nat.eq_zero_or_pos (s.gate g).credit with hheld | hcredit
    · rw [takeText_held hheld]
      exact hgate s g _ hs
    · rw [takeText_credit hcredit]
      exact henter _ (hgate s g _ hs)

theorem takeText_link (s : State) (i : CarIx) (x : Text) (gate : Option (Fin 8)) :
    (s.takeText i x gate).link = s.link :=
  takeText_keeps (fun u => u.link = s.link) gate rfl (fun _ h => (enterText_link ..).trans h) fun _ _ _ h => h

/-- Taking a text leaves everything alone but the roster, the queue, the gates and the break-pending flags. -/
theorem restKept_takeText {s u : State} (h : s.RestKept u) (i : CarIx) (x : Text) (gate : Option (Fin 8)) :
    s.RestKept (u.takeText i x gate) :=
  takeText_keeps s.RestKept gate h (fun u hu => by simpa [State.RestKept, State.LinesKept, State.SettingsKept] using hu)
    fun u g f hu => by simpa [State.RestKept, State.LinesKept, State.SettingsKept] using hu

/-- Past the checks of the payload come the car's and the pool's, and then the text is taken (R46, R138). -/
theorem actCarText_eq {slot gb : Byte} {chars : List Byte} {i : CarIx} {gate : Option (Fin 8)}
    (hslot : slot.toNat = i.val) (hmin : 1 ≤ chars.length) (hmax : chars.length ≤ 40)
    (hgate : gateByte gb.toNat = some gate) (level budget count : Byte) (s : State) :
    actCarText (slot :: gb :: level :: budget :: count :: chars) s =
      if !(s.car i).present then s.refuse .noCar
      else if Config.poolSize ≤ s.poolInUse then s.refuse .queueFull
      else
        ((s.takeSeq i).takeText i (clampedText (s.nextSeq i) level budget chars) gate,
          { code := textCode level budget chars, contents := [BitVec.ofNat 8 (s.nextSeq i)] }) := by
  have hcar : carOfNat slot.toNat = some i := by simp [carOfNat, hslot]
  have hlen : ¬(chars.length = 0 ∨ 40 < chars.length) := by omega
  simp only [actCarText, byteAt, List.getD_cons_zero, List.getD_cons_succ, List.drop_succ_cons, List.drop_zero, hcar,
    if_neg hlen, hgate, doneOr_clamped]
  cases gate <;> rfl

/-! ## The request

Taking the frame and placing the reply leave the roster, the queue and the gates alone. -/

theorem placeReply_cars (s : State) (f : Frame) : (s.placeReply f).cars = s.cars := rfl
theorem placeReply_queue (s : State) (f : Frame) : (s.placeReply f).queue = s.queue := rfl
theorem placeReply_gates (s : State) (f : Frame) : (s.placeReply f).gates = s.gates := rfl
theorem popFrame_gates (s : State) : s.popFrame.gates = s.gates := rfl

theorem execCarText_eq {s : State} {tag : Nat} {slot gb level budget count : Byte} {chars : List Byte}
    (h : s.Takes 0x0E tag (slot :: gb :: level :: budget :: count :: chars)) (hcount : count.toNat = chars.length) :
    exec .carText s =
      .next ((actCarText (slot :: gb :: level :: budget :: count :: chars) s.popFrame).1.placeReply
        (replyTo { kind := 0x0E, tag := tag, payload := slot :: gb :: level :: budget :: count :: chars }
          (actCarText (slot :: gb :: level :: budget :: count :: chars) s.popFrame).2)) :=
  congrArg Host.Outcome.next (take_checked h (textSize_of_count hcount) actCarText)

/-- A refused CAR_TEXT answers and changes nothing else (R168). -/
theorem execCarText_refused {s : State} {tag : Nat} {slot gb level budget count : Byte} {chars : List Byte} {c : Code}
    (h : s.Takes 0x0E tag (slot :: gb :: level :: budget :: count :: chars)) (hcount : count.toNat = chars.length)
    (hact : actCarText (slot :: gb :: level :: budget :: count :: chars) s.popFrame = s.popFrame.refuse c) :
    exec .carText s = .next (s.answered 0x0E tag c []) := by
  rw [execCarText_eq h hcount, hact]
  exact congrArg _ (placeReply_refuse ..)

/-- The part when a text has been taken, before its reply is placed. -/
def State.textTaken (s : State) (i : CarIx) (x : Text) (gate : Option (Fin 8)) : State :=
  (s.popFrame.takeSeq i).takeText i x gate

theorem textTaken_none (s : State) (i : CarIx) (x : Text) :
    s.textTaken i x none = (s.popFrame.takeSeq i).enterText .tail i x := rfl

theorem textTaken_credit {s : State} {g : Fin 8} (h : 0 < (s.gate g).credit) (i : CarIx) (x : Text) :
    s.textTaken i x (some g) =
      ((s.popFrame.takeSeq i).modGate g fun y => { y with credit := y.credit - 1 }).enterText .tail i x :=
  takeText_credit (s := s.popFrame.takeSeq i) h i x

theorem textTaken_held {s : State} {g : Fin 8} (h : (s.gate g).credit = 0) (i : CarIx) (x : Text) :
    s.textTaken i x (some g) = (s.popFrame.takeSeq i).modGate g fun y => { y with hold := y.hold ++ [.text i x] } :=
  takeText_held (s := s.popFrame.takeSeq i) h i x

theorem textTaken_link (s : State) (i : CarIx) (x : Text) (gate : Option (Fin 8)) :
    (s.textTaken i x gate).link = s.popFrame.link := by
  rw [State.textTaken, takeText_link, State.takeSeq, modCar_link]

/-- What the reply to a text that is taken shares, whichever way the text goes. -/
theorem textTaken_placeReply (s : State) (i : CarIx) (x : Text) (gate : Option (Fin 8)) (tag : Nat) (code : Code)
    (contents : List Byte) :
    let t := (s.textTaken i x gate).placeReply (replyFrame 0x0E tag code contents)
    s.Answers t 0x0E tag code contents ∧ t.link.outbox = s.link.outbox ∧ s.RestKept t := by
  have hlink := textTaken_link s i x gate
  have hrest : s.RestKept (s.textTaken i x gate) :=
    restKept_takeText (by simp [State.RestKept, State.LinesKept, State.SettingsKept, State.takeSeq]) ..
  refine ⟨answers_placeReply ?_ .., ?_, ?_⟩
  · rw [State.LinkKept, hlink]
  · rw [placeReply_outbox, hlink]
    rfl
  · simpa [State.RestKept, State.LinesKept, State.SettingsKept] using hrest

/-- A text that passes the checks is taken and answered with its seq (R46). -/
theorem execCarText_taken {s : State} {tag : Nat} {slot gb level budget count : Byte} {chars : List Byte} {i : CarIx}
    {gate : Option (Fin 8)} (h : s.Takes 0x0E tag (slot :: gb :: level :: budget :: count :: chars))
    (hcount : count.toNat = chars.length) (hslot : slot.toNat = i.val) (hmin : 1 ≤ chars.length)
    (hmax : chars.length ≤ 40) (hpresent : (s.car i).present = true) (hpool : s.poolInUse < 40)
    (hgate : gateByte gb.toNat = some gate) :
    exec .carText s =
      .next ((s.textTaken i (clampedText (s.nextSeq i) level budget chars) gate).placeReply
        (replyFrame 0x0E tag (textCode level budget chars) [BitVec.ofNat 8 (s.nextSeq i)])) := by
  have hroom : ¬Config.poolSize ≤ s.popFrame.poolInUse := Nat.not_le.mpr hpool
  rw [execCarText_eq h hcount, actCarText_eq hslot hmin hmax hgate, popFrame_car, hpresent, if_neg (by decide),
    if_neg hroom, replyTo_eq_replyFrame]
  rfl

theorem textTaken_entered_none (s : State) (i : CarIx) (x : Text) (f : Frame) :
    (s.takeSeq i).TextEntered ((s.textTaken i x none).placeReply f) .tail i x := by
  rw [textTaken_none]
  exact textEntered_congr (by rfl) (by rfl) (placeReply_queue ..).symm (placeReply_cars ..).symm
    (textEntered_enterText ..)

/-- A credit of the gate lets the text into the queue as if it had no gate (R138). -/
theorem textTaken_entered_credit {s : State} {g : Fin 8} (h : 0 < (s.gate g).credit) (i : CarIx) (x : Text) (f : Frame) :
    (s.takeSeq i).TextEntered ((s.textTaken i x (some g)).placeReply f) .tail i x := by
  rw [textTaken_credit h]
  exact textEntered_congr (by rfl) (by rfl) (placeReply_queue ..).symm (placeReply_cars ..).symm
    (textEntered_enterText ..)

theorem textTaken_gates_none (s : State) (i : CarIx) (x : Text) : (s.textTaken i x none).gates = s.gates := by
  rw [textTaken_none, enterText_gates, State.takeSeq, modCar_gates, popFrame_gates]

/-- One credit of the gate is used up, and the other gates stand as they stood (R138). -/
theorem textTaken_gate_credit {s : State} {g : Fin 8} (h : 0 < (s.gate g).credit) (i : CarIx) (x : Text) :
    (s.textTaken i x (some g)).gate g = { s.gate g with credit := (s.gate g).credit - 1 } ∧
      ∀ k, k ≠ g → (s.textTaken i x (some g)).gate k = s.gate k := by
  rw [textTaken_credit h]
  refine ⟨?_, fun k hk => ?_⟩
  · rw [enterText_gate, gate_modGate]
    rfl
  · rw [enterText_gate, gate_modGate_ne _ hk]
    rfl

end Sys2Proof.Machine
end

section
/-! CERTIFICATES of the family 03_traffic_queue_and_dispatch.md. -/

namespace Sys2Proof.Machine

/-- Settles O33: the checks in order, then the three ways of a text that is taken. -/
theorem carTextIsQueuedOrHeld : Obligations.CarTextIsQueuedOrHeld := by
  unfold Obligations.CarTextIsQueuedOrHeld
  intro tag slot gb level budget count chars s htakes hcount
  refine ⟨fun hbad => ?badArg, fun i hslot hmin hmax hgb => ⟨fun hfree => ?noCar, fun hpresent hfull => ?queueFull,
    fun hpresent hpool lv hlv => ?taken⟩⟩
  case badArg => exact execCarText_refused htakes hcount (actCarText_badArg hbad ..)
  case noCar =>
    obtain ⟨gate, hgate⟩ := gateByte_valid hgb
    refine execCarText_refused htakes hcount ?_
    rw [actCarText_eq hslot hmin hmax hgate, popFrame_car, hfree, if_pos (by decide)]
  case queueFull =>
    obtain ⟨gate, hgate⟩ := gateByte_valid hgb
    have hroom : Config.poolSize ≤ s.popFrame.poolInUse := hfull
    refine execCarText_refused htakes hcount ?_
    rw [actCarText_eq hslot hmin hmax hgate, popFrame_car, hpresent, if_neg (by decide), if_pos hroom]
  case taken =>
    obtain rfl : lv = textLevel level.toNat := Fin.ext (hlv.trans (textLevel_val _).symm)
    intro seq shown x code u
    have hu : s.takeSeq i = u := rfl
    have hexec {gate} (hgate : gateByte gb.toNat = some gate) :
        exec .carText s =
          .next ((s.textTaken i x gate).placeReply (replyFrame 0x0E tag code [BitVec.ofNat 8 seq])) :=
      execCarText_taken htakes hcount hslot hmin hmax hpresent hpool hgate
    -- The text, its code and its seq stay opaque from here on, which keeps the goals small.
    clear_value x code u seq
    subst hu
    refine ⟨fun hnone => ?ungated, fun g hg => ⟨fun hcredit => ?credit, fun hcredit => ?held⟩⟩
    case ungated =>
      obtain ⟨hanswers, houtbox, hrest⟩ := textTaken_placeReply s i x none tag code [BitVec.ofNat 8 seq]
      refine ⟨_, hexec (hnone ▸ gateByte_none), hanswers, textTaken_entered_none .., ?_, houtbox, hrest⟩
      rw [placeReply_gates, textTaken_gates_none]
    case credit =>
      obtain ⟨hanswers, houtbox, hrest⟩ := textTaken_placeReply s i x (some g) tag code [BitVec.ofNat 8 seq]
      obtain ⟨hgate, hothers⟩ := textTaken_gate_credit hcredit i x
      refine ⟨_, hexec (gateByte_gate hg), hanswers, textTaken_entered_credit hcredit .., ?_, fun k hk => ?_, houtbox,
        hrest⟩
      · rw [placeReply_gate, hgate]
      · rw [placeReply_gate, hothers k hk]
    case held =>
      rw [hexec (gateByte_gate hg), textTaken_held hcredit]
      rfl

end Sys2Proof.Machine
end

section
/-! SUPPORT. The stopping distance (R124), the limit for a gap (R126), the gap to a neighbour (R125) and the neighbours
that count (R127). -/

namespace Sys2Proof.Machine

/-! ## The stopping distance -/

theorem le_ceilDiv_mul {y : Nat} (hy : 0 < y) (x : Nat) : x ≤ ceilDiv x y * y := by
  rw [mul_comm]
  exact le_smul_ceilDiv hy

theorem ceilDiv_mul_lt {y : Nat} (hy : 0 < y) (x : Nat) : ceilDiv x y * y < x + y := by
  have hdiv : ceilDiv x y * y ≤ x + y - 1 := Nat.div_mul_le_self ..
  omega

theorem WayParams.required_sub_margin (w : WayParams) (c : Nat) :
    w.required c - w.margin = ceilDiv (2 * w.braking * (5 * c) * w.reaction + 10 * (5 * c) ^ 2) (200 * w.braking) :=
  Nat.add_sub_cancel_left ..

/-- The stopping distance never decreases, since its sum does not and the division is by a constant. -/
theorem WayParams.required_mono (w : WayParams) : Monotone w.required := by
  intro c d hcd
  unfold WayParams.required ceilDiv
  dsimp only
  gcongr

theorem WayParams.required_zero {w : WayParams} (hbraking : 0 < w.braking) : w.required 0 = w.margin := by
  have hquot : (200 * w.braking - 1) / (200 * w.braking) = 0 := Nat.div_eq_of_lt (by omega)
  simp [WayParams.required, ceilDiv, hquot]

/-! ## The largest safe code -/

theorem largestUpTo_decide (P : Nat → Prop) [DecidablePred P] (n : Nat) :
    largestUpTo (fun c => decide (P c)) n = Nat.findGreatest P n := by
  induction n with
  | zero => rfl
  | succ n ih => simp [largestUpTo, Nat.findGreatest_succ, ih]

theorem WayParams.limit_eq (w : WayParams) (gap toward : Nat) :
    w.limit gap toward = Nat.findGreatest (fun c => w.required (min 255 (c + toward)) ≤ gap) 255 :=
  largestUpTo_decide ..

theorem WayParams.limit_le (w : WayParams) (gap toward : Nat) : w.limit gap toward ≤ 255 := by
  rw [WayParams.limit_eq]
  exact Nat.findGreatest_le _

theorem WayParams.required_limit_le {w : WayParams} {gap toward : Nat} (h : w.required (min 255 toward) ≤ gap) :
    w.required (min 255 (w.limit gap toward + toward)) ≤ gap := by
  rw [WayParams.limit_eq]
  exact Nat.findGreatest_spec (P := fun c => w.required (min 255 (c + toward)) ≤ gap) (Nat.zero_le 255)
    (by simpa using h)

theorem WayParams.lt_required_of_limit_lt {w : WayParams} {gap toward c : Nat} (h : w.limit gap toward < c)
    (hc : c ≤ 255) : gap < w.required (min 255 (c + toward)) := by
  rw [WayParams.limit_eq] at h
  exact Nat.lt_of_not_le
    (Nat.findGreatest_is_greatest (P := fun k => w.required (min 255 (k + toward)) ≤ gap) h hc)

/-- Where even standing still is too close, every code is: the distance grows with the code. -/
theorem WayParams.limit_eq_zero {w : WayParams} {gap toward : Nat} (h : gap < w.required (min 255 toward)) :
    w.limit gap toward = 0 := by
  rw [WayParams.limit_eq, Nat.findGreatest_eq_zero_iff]
  intro c _ _ hsafe
  have hmono : w.required (min 255 toward) ≤ w.required (min 255 (c + toward)) := w.required_mono (by omega)
  omega

theorem WayParams.limit_eq_255 {w : WayParams} {gap : Nat} (h : w.required 255 ≤ gap) (toward : Nat) :
    w.limit gap toward = 255 := by
  refine (w.limit_le gap toward).antisymm (Nat.le_of_not_lt fun hlt => ?_)
  have hunsafe := WayParams.lt_required_of_limit_lt hlt le_rfl
  rw [Nat.min_eq_left (by omega)] at hunsafe
  omega

/-! ## A neighbour -/

theorem placeOf_of_position {s : State} {i : CarIx} {p : Position} (hpresent : (s.car i).present = true)
    (hp : (s.car i).position = some p) : s.placeOf i = some p.dm := by
  simp [State.placeOf, hpresent, hp]

theorem gapBetween_of_places {s : State} {i j : CarIx} {a b : Int} (hi : s.placeOf i = some a)
    (hj : s.placeOf j = some b) :
    (s.gapBetween i j : Int) =
      max 0 (|b - a| - (s.car i).uncertainty - (s.car j).uncertainty - s.way.carLength) := by
  simp only [State.gapBetween, hi, hj, Option.getD_some, Int.abs_eq_natAbs]
  omega

theorem Car.towardSpeed_after (j : Car) : j.towardSpeed true = if j.direction = .neg then j.speed else 0 := by
  unfold Car.towardSpeed
  cases j.direction <;> rfl

theorem Car.towardSpeed_before (j : Car) : j.towardSpeed false = if j.direction = .pos then j.speed else 0 := by
  unfold Car.towardSpeed
  cases j.direction <;> rfl

theorem newLimit_eq (s : State) (before after : Option CarIx) (i : CarIx) :
    s.newLimit before after i =
      if (s.car i).direction = .pos then s.neighbourLimit i true after
      else if (s.car i).direction = .neg then s.neighbourLimit i false before
      else min (s.neighbourLimit i false before) (s.neighbourLimit i true after) := by
  unfold State.newLimit
  cases (s.car i).direction <;> rfl

end Sys2Proof.Machine
end

section
/-! SUPPORT. How a new limit replaces a gap cap (R128), row by row of its table. -/

namespace Sys2Proof.Machine

theorem nextGapCap_clear {limit : Nat} (hlimit : 255 ≤ limit) (h : Nat) (old : Option Nat) :
    nextGapCap h old limit = none := if_pos hlimit

theorem nextGapCap_absent {limit : Nat} (hlimit : limit < 255) (h : Nat) : nextGapCap h none limit = some limit :=
  if_neg (by omega)

theorem nextGapCap_present {limit : Nat} (hlimit : limit < 255) (h g : Nat) :
    nextGapCap h (some g) limit = if limit < g ∨ g + h ≤ limit then some limit else some g :=
  if_neg (by omega)

theorem nextGapCap_replaced {limit h g : Nat} (hlimit : limit < 255) (hg : limit < g ∨ g + h ≤ limit) :
    nextGapCap h (some g) limit = some limit := by
  rw [nextGapCap_present hlimit, if_pos hg]

theorem nextGapCap_kept {limit h g : Nat} (hlimit : limit < 255) (hg : g ≤ limit) (hrise : limit < g + h) :
    nextGapCap h (some g) limit = some g := by
  rw [nextGapCap_present hlimit, if_neg (by omega)]

/-- No gap cap is 255: a limit of 255 clears the cap, and any other replaces it or leaves it. -/
theorem le_254_of_nextGapCap_eq_some {h limit v : Nat} {old : Option Nat} (hold : ∀ g, old = some g → g ≤ 254)
    (hv : nextGapCap h old limit = some v) : v ≤ 254 := by
  obtain hlimit | hlimit := Nat.lt_or_ge limit 255
  · cases old with
    | none =>
      obtain rfl : limit = v := Option.some.inj ((nextGapCap_absent hlimit h).symm.trans hv)
      omega
    | some g =>
      rw [nextGapCap_present hlimit] at hv
      split at hv
      · obtain rfl : limit = v := Option.some.inj hv
        omega
      · exact hold v hv
  · simp [nextGapCap_clear hlimit] at hv

end Sys2Proof.Machine
end

section
/-! CERTIFICATES of the family 07_speed_caps_and_the_gap_guard.md. -/

namespace Sys2Proof.Machine

/-- Settles O28: the ceiling of R124, its growth, the largest safe code of R126, and the neighbours' share in it. -/
theorem limitIsTheLargestSafeCode : Obligations.LimitIsTheLargestSafeCode := by
  unfold Obligations.LimitIsTheLargestSafeCode
  intro w hbraking
  refine ⟨fun c => ?ceiling, fun c d hcd => w.required_mono hcd, WayParams.required_zero hbraking,
    fun gap toward => ⟨WayParams.limit_eq_zero, fun h => WayParams.limit_eq_255 h toward,
      fun h => ⟨w.limit_le gap toward, WayParams.required_limit_le h, fun c => WayParams.lt_required_of_limit_lt⟩,
      fun s before after i j hway => ⟨fun hi hj p q hp hq => ?gap, Car.towardSpeed_after _, Car.towardSpeed_before _,
        ?newLimit⟩⟩⟩
  case ceiling =>
    have hdivisor : 0 < 200 * w.braking := by omega
    rw [w.required_sub_margin]
    exact ⟨le_ceilDiv_mul hdivisor _, ceilDiv_mul_lt hdivisor _⟩
  case gap =>
    rw [← hway]
    exact gapBetween_of_places (placeOf_of_position hi hp) (placeOf_of_position hj hq)
  case newLimit =>
    subst hway
    rw [newLimit_eq]
    cases before <;> cases after <;> rfl

/-- Settles O29: the rows of R128's table; a cap stays at most 254 because 255 clears it. -/
theorem gapCapFollowsItsHysteresis : Obligations.GapCapFollowsItsHysteresis := by
  unfold Obligations.GapCapFollowsItsHysteresis
  intro h limit g
  refine ⟨fun hlimit => ⟨nextGapCap_clear hlimit h none, nextGapCap_clear hlimit h (some g)⟩,
    fun hlimit => ⟨nextGapCap_absent hlimit h, fun hlower => nextGapCap_replaced hlimit (.inl hlower), ?equal,
      fun _ hrise => nextGapCap_replaced hlimit (.inr hrise),
      fun hhigher hrise => nextGapCap_kept hlimit hhigher.le hrise⟩,
    fun hg v hv => hv.elim (le_254_of_nextGapCap_eq_some fun k hk => Option.some.inj hk ▸ hg)
      (le_254_of_nextGapCap_eq_some fun _ hk => nomatch hk)⟩
  case equal =>
    -- With hysteresis 0 the cap is replaced by its own value, otherwise it stays.
    rw [nextGapCap_present hlimit, ite_self]

end Sys2Proof.Machine
end

section
/-! SUPPORT. What an event of one line leaves of the other line, of the cars that count there and of the link
(R112, R152, R170). -/

namespace Sys2Proof.Machine

/-! ## A line that may take a break event -/

/-- The engine stands as it stood, but for a break event that a line in service has taken (R152). -/
def Engine.MayBreak (e f : Engine) : Prop :=
  f = e ∨ e.state.inService = true ∧ f = { e with breakPending := true }

theorem Engine.MayBreak.refl (e : Engine) : e.MayBreak e := .inl rfl

theorem Engine.MayBreak.trans {e f g : Engine} (hef : e.MayBreak f) (hfg : f.MayBreak g) : e.MayBreak g := by
  obtain rfl | ⟨he, rfl⟩ := hef
  · exact hfg
  · obtain rfl | ⟨-, rfl⟩ := hfg <;> exact .inr ⟨he, rfl⟩

theorem Engine.MayBreak.eq_of_outOfService {e f : Engine} (h : e.MayBreak f) (hout : e.state.inService = false) :
    f = e := by
  obtain hfe | ⟨hin, -⟩ := h
  · exact hfe
  · simp [hin] at hout

theorem Engine.MayBreak.eq_with_breakPending {e f : Engine} (h : e.MayBreak f) :
    f = { e with breakPending := f.breakPending } := by
  obtain rfl | ⟨-, rfl⟩ := h <;> rfl

theorem Engine.MayBreak.unbroken {e f : Engine} (h : e.MayBreak f) : f.unbroken = e.unbroken := by
  obtain rfl | ⟨-, rfl⟩ := h <;> rfl

theorem mayBreak_breakLine (s : State) (X Y : LineId) : (s.eng Y).MayBreak ((s.breakLine X).eng Y) := by
  unfold State.breakLine
  split
  · next hin =>
    obtain rfl | rfl := line_cases X Y
    · exact .inr ⟨hin, eng_modEng ..⟩
    · exact .inl (eng_modEng_other ..)
  · exact .refl _

/-! ## A car that no cycle end has reached -/

/-- The record stands as it stood, but for its countdown, its head and gap cap and a wake (R12, R129, R141, R150). -/
structure Car.Carries (c d : Car) : Prop where
  eq : d =
    { c with
      grantedDoze := d.grantedDoze, lightRun := d.lightRun, listening := d.listening, countdown := d.countdown
      headCap := d.headCap, gapCap := d.gapCap, effectiveCap := d.effectiveCap }
  notDeep : c.grantedDoze.isDeep = false → d.grantedDoze.isDeep = false

theorem Car.Carries.refl (c : Car) : c.Carries c := ⟨rfl, id⟩

theorem Car.Carries.trans {c d e : Car} (hcd : c.Carries d) (hde : d.Carries e) : c.Carries e where
  eq := by rw [hde.eq, hcd.eq]
  notDeep h := hde.notDeep (hcd.notDeep h)

theorem Car.Carries.home {c d : Car} (h : c.Carries d) : d.home = c.home := by rw [h.eq]

theorem Car.Carries.present {c d : Car} (h : c.Carries d) : d.present = c.present := by rw [h.eq]; rfl

/-! ## Beside the lines of `own` -/

/-- What an event of the lines `own` leaves alone: the latch, the other lines but for their break-pending flags, the cars
that count there, and the link but for new notices. -/
structure State.Beside (own : Set LineId) (s t : State) : Prop where
  halt : t.halt = s.halt
  eng : ∀ X ∉ own, (s.eng X).MayBreak (t.eng X)
  car : ∀ i, (s.car i).home.countingLine ∉ own → (s.car i).Carries (t.car i)
  link : s.LinkKept t
  outbox : s.link.outbox <+: t.link.outbox

theorem State.Beside.refl (own : Set LineId) (s : State) : s.Beside own s where
  halt := rfl
  eng _ _ := .refl _
  car _ _ := .refl _
  link := linkKept_refl s
  outbox := List.prefix_refl _

theorem State.Beside.trans {own : Set LineId} {s t u : State} (hst : s.Beside own t) (htu : t.Beside own u) :
    s.Beside own u where
  halt := htu.halt.trans hst.halt
  eng X hX := (hst.eng X hX).trans (htu.eng X hX)
  car i hi := (hst.car i hi).trans (htu.car i (by rwa [(hst.car i hi).home]))
  link := linkKept_trans hst.link htu.link
  outbox := hst.outbox.trans htu.outbox

/-- An event of the lines `own` that touches no car and makes no notice. -/
theorem beside_of_eq {own : Set LineId} {s t : State} (hhalt : t.halt = s.halt) (hcars : t.cars = s.cars)
    (hlink : t.link = s.link) (heng : ∀ X ∉ own, (s.eng X).MayBreak (t.eng X)) : s.Beside own t where
  halt := hhalt
  eng := heng
  car i _ := car_congr hcars i ▸ .refl _
  link := by simp [State.LinkKept, hlink]
  outbox := by simp [hlink]

theorem State.Beside.mono {own more : Set LineId} (hsub : own ⊆ more) {s t : State} (h : s.Beside own t) :
    s.Beside more t where
  halt := h.halt
  eng X hX := h.eng X fun hown => hX (hsub hown)
  car i hi := h.car i fun hown => hi (hsub hown)
  link := h.link
  outbox := h.outbox

end Sys2Proof.Machine
end

section
/-! SUPPORT. The queue while lines stop: an entry stays in its level, a DRIVE may move to a more urgent one, and what is
added is free and stands behind the POLLs that wait (R43, R44, R46). -/

namespace Sys2Proof.Machine

/-! ## What may happen to the queue beside a stop -/

/-- No engine has engaged or seated the entry. -/
structure Entry.Fresh (e : Entry) : Prop where
  engaged : e.engaged = none
  seat : ∀ i x, e.job = .text i x → x.seat = none

theorem fresh_poll (i : CarIx) : Entry.Fresh { job := .poll i, engaged := none } := ⟨rfl, nofun⟩

theorem fresh_drive (i : CarIx) : Entry.Fresh { job := .drive i, engaged := none } := ⟨rfl, nofun⟩

/-- The entry stands in level `l`, or is a DRIVE that stands in a more urgent one. -/
def State.Holds (s : State) (l : Fin 8) (e : Entry) : Prop :=
  ∃ k : Fin 8, k ≤ l ∧ (e.job.isDrive = false → k = l) ∧ e ∈ s.queue[k]

/-- Every entry stays, a DRIVE in its level or in a more urgent one; every other is fresh; the first POLL of a level stays
the first. -/
structure State.QueueGrows (s t : State) : Prop where
  holds : ∀ l e, s.Holds l e → t.Holds l e
  added : ∀ l : Fin 8, ∀ e ∈ t.queue[l], e.Fresh ∨ ∃ k : Fin 8, e ∈ s.queue[k] ∧ (e.job.isDrive = false → k = l)
  firstPoll : ∀ (l : Fin 8) e, (s.queue[l].find? fun x => x.job.isPoll) = some e →
    (t.queue[l].find? fun x => x.job.isPoll) = some e

theorem holds_of_mem {s : State} {l : Fin 8} {e : Entry} (h : e ∈ s.queue[l]) : s.Holds l e :=
  ⟨l, le_rfl, fun _ => rfl, h⟩

theorem mem_of_holds {s : State} {l : Fin 8} {e : Entry} (h : s.Holds l e) (hdrive : e.job.isDrive = false) :
    e ∈ s.queue[l] := by
  obtain ⟨k, -, hk, hmem⟩ := h
  rwa [← hk hdrive]

theorem State.QueueGrows.of_queue_eq {s t : State} (h : t.queue = s.queue) : s.QueueGrows t where
  holds l e := by simp [State.Holds, h]
  added l e he := .inr ⟨l, by rwa [h] at he, fun _ => rfl⟩
  firstPoll l e := by simp [h]

theorem State.QueueGrows.trans {s t u : State} (hst : s.QueueGrows t) (htu : t.QueueGrows u) : s.QueueGrows u where
  holds l e h := htu.holds l e (hst.holds l e h)
  added l e he := by
    obtain hfresh | ⟨k, hk, hkl⟩ := htu.added l e he
    · exact .inl hfresh
    obtain hfresh | ⟨m, hm, hmk⟩ := hst.added k e hk
    · exact .inl hfresh
    · exact .inr ⟨m, hm, fun hdrive => (hmk hdrive).trans (hkl hdrive)⟩
  firstPoll l e h := htu.firstPoll l e (hst.firstPoll l e h)

/-- A property of fresh entries that every entry has is kept. -/
theorem State.QueueGrows.forall_entries {s t : State} (h : s.QueueGrows t) {Q : Entry → Prop}
    (hfresh : ∀ e : Entry, e.Fresh → Q e) (hs : ∀ e ∈ s.entries, Q e) : ∀ e ∈ t.entries, Q e := by
  intro e he
  obtain ⟨l, hl⟩ := mem_entries.mp he
  obtain hnew | ⟨k, hk, -⟩ := h.added l e hl
  · exact hfresh e hnew
  · exact hs e (mem_entries.mpr ⟨k, hk⟩)

/-! ## Adding an entry -/

theorem putTail_queue (s : State) (l : Fin 8) (e : Entry) (k : Fin 8) :
    (s.putTail l e).queue[k] = s.queue[k] ++ if k = l then [e] else [] := by
  by_cases h : k = l
  · subst h
    simp [State.putTail]
  · have h' : (l : Nat) ≠ (k : Nat) := fun hv => h (Fin.ext hv.symm)
    simp [State.putTail, h, Vector.getElem_set_ne, h']

theorem putHead_queue (s : State) (l : Fin 8) (e : Entry) (k : Fin 8) :
    (s.putHead l e).queue[k] = (if k = l then [e] else []) ++ s.queue[k] := by
  by_cases h : k = l
  · subst h
    simp [State.putHead]
  · have h' : (l : Nat) ≠ (k : Nat) := fun hv => h (Fin.ext hv.symm)
    simp [State.putHead, h, Vector.getElem_set_ne, h']

theorem queueGrows_putTail (s : State) (l : Fin 8) {e : Entry} (he : e.Fresh) : s.QueueGrows (s.putTail l e) where
  holds k x := fun ⟨m, hm, hmk, hx⟩ => ⟨m, hm, hmk, by rw [putTail_queue]; exact List.mem_append_left _ hx⟩
  added k x hx := by
    rw [putTail_queue, List.mem_append] at hx
    obtain hold | hnew := hx
    · exact .inr ⟨k, hold, fun _ => rfl⟩
    · split at hnew
      · exact .inl (List.mem_singleton.mp hnew ▸ he)
      · cases hnew
  firstPoll k x hx := by rw [putTail_queue, List.find?_append, hx, Option.some_or]

/-- At the head of a level only a POLL would be the first POLL. -/
theorem queueGrows_putHead (s : State) (l : Fin 8) {e : Entry} (he : e.Fresh) (hpoll : e.job.isPoll = false) :
    s.QueueGrows (s.putHead l e) where
  holds k x := fun ⟨m, hm, hmk, hx⟩ => ⟨m, hm, hmk, by rw [putHead_queue]; exact List.mem_append_right _ hx⟩
  added k x hx := by
    rw [putHead_queue, List.mem_append] at hx
    obtain hnew | hold := hx
    · split at hnew
      · exact .inl (List.mem_singleton.mp hnew ▸ he)
      · cases hnew
    · exact .inr ⟨k, hold, fun _ => rfl⟩
  firstPoll k x hx := by
    rw [putHead_queue, List.find?_append, hx]
    split <;> simp [hpoll]

/-! ## Moving a DRIVE -/

theorem foldl_putTail_queue (l : Fin 8) (es : List Entry) (s : State) (k : Fin 8) :
    (es.foldl (fun s e => s.putTail l e) s).queue[k] = s.queue[k] ++ if k = l then es else [] := by
  induction es generalizing s with
  | nil => simp
  | cons e es ih =>
    rw [List.foldl_cons, ih, putTail_queue]
    split <;> simp

theorem moveToTail_queue (s : State) (p : Entry → Bool) (l k : Fin 8) :
    (s.moveToTail p l).queue[k] =
      (s.queue[k].filter fun e => !p e) ++ if k = l then s.entries.filter p else [] := by
  rw [State.moveToTail, foldl_putTail_queue]
  simp [State.dropEntries, State.mapLevels]

theorem levelOf_le {s : State} {p : Entry → Bool} {k l : Fin 8} {e : Entry} (h : s.levelOf p = some k)
    (hmem : e ∈ s.queue[l]) (he : p e = true) : k ≤ l := by
  obtain ⟨-, n, hn, hkn, hbefore⟩ := List.find?_eq_some_iff_getElem.mp h
  by_contra hlt
  have hl : l.val < n := by
    rw [List.getElem_finRange] at hkn
    have hval : n = k.val := congrArg Fin.val hkn
    omega
  have hnone : ∀ x ∈ s.queue[l], p x = false := by simpa using hbefore l.val hl
  exact absurd he (by simp [hnone e hmem])

theorem isDrive_of_isDriveOf {e : Entry} {i : CarIx} (h : e.isDriveOf i = true) : e.job.isDrive = true := by
  unfold Entry.isDriveOf at h
  split at h
  · next hjob => rw [hjob]; rfl
  · cases h

theorem isDriveOf_of_isPoll {e : Entry} (h : e.job.isPoll = true) (i : CarIx) : e.isDriveOf i = false := by
  unfold Entry.isDriveOf
  split
  · next hjob => rw [hjob] at h; cases h
  · rfl

/-- A DRIVE moves to a level more urgent than its own. -/
theorem queueGrows_moveToTail {s : State} {i : CarIx} {k l : Fin 8} (hlevel : s.levelOf (Entry.isDriveOf i) = some k)
    (hl : l < k) : s.QueueGrows (s.moveToTail (Entry.isDriveOf i) l) where
  holds m e := by
    rintro ⟨n, hn, hnm, he⟩
    by_cases hdrive : e.isDriveOf i = true
    · refine ⟨l, (hl.le.trans (levelOf_le hlevel he hdrive)).trans hn, fun hnot => ?_, ?_⟩
      · simp [isDrive_of_isDriveOf hdrive] at hnot
      · rw [moveToTail_queue, if_pos rfl]
        exact List.mem_append_right _ (List.mem_filter.mpr ⟨mem_entries.mpr ⟨n, he⟩, hdrive⟩)
    · refine ⟨n, hn, hnm, ?_⟩
      rw [moveToTail_queue]
      exact List.mem_append_left _ (List.mem_filter.mpr ⟨he, by simpa using hdrive⟩)
  added m e he := by
    rw [moveToTail_queue, List.mem_append] at he
    obtain hstays | hmoved := he
    · exact .inr ⟨m, List.mem_of_mem_filter hstays, fun _ => rfl⟩
    · split at hmoved
      · obtain ⟨hmem, hdrive⟩ := List.mem_filter.mp hmoved
        obtain ⟨n, hn⟩ := mem_entries.mp hmem
        exact .inr ⟨n, hn, fun hnot => by simp [isDrive_of_isDriveOf hdrive] at hnot⟩
      · cases hmoved
  firstPoll m e he := by
    have hskip : (fun x : Entry => decide ((!x.isDriveOf i) = true ∧ x.job.isPoll = true)) = fun x => x.job.isPoll := by
      funext x
      cases hx : x.job.isPoll with
      | false => simp
      | true => simp [isDriveOf_of_isPoll hx]
    rw [moveToTail_queue, List.find?_append, List.find?_filter, hskip, he, Option.some_or]

end Sys2Proof.Machine
end

section
/-! SUPPORT. The events that touch no line but for a break event: gap evaluations, gate opens, new POLLs and the ask list
(R12, R75, R129, R142). -/

namespace Sys2Proof.Machine

/-- What happens beside the lines of `own`: break events, caps, wakes, fresh entries and notices. -/
structure State.SideEffect (own : Set LineId) (s t : State) : Prop extends State.Beside own s t, State.QueueGrows s t

theorem State.SideEffect.refl (own : Set LineId) (s : State) : s.SideEffect own s := ⟨.refl own s, .of_queue_eq rfl⟩

theorem State.SideEffect.trans {own : Set LineId} {s t u : State} (hst : s.SideEffect own t) (htu : t.SideEffect own u) :
    s.SideEffect own u :=
  ⟨hst.toBeside.trans htu.toBeside, hst.toQueueGrows.trans htu.toQueueGrows⟩

theorem State.SideEffect.of_none {s t : State} (h : s.SideEffect ∅ t) (own : Set LineId) : s.SideEffect own t :=
  ⟨h.toBeside.mono (Set.empty_subset own), h.toQueueGrows⟩

/-! ## Break events -/

theorem sideEffect_breakLine (s : State) (X : LineId) : s.SideEffect ∅ (s.breakLine X) :=
  ⟨beside_of_eq (breakLine_halt ..) (breakLine_cars ..) (breakLine_link ..) fun Y _ => mayBreak_breakLine s X Y,
    .of_queue_eq (breakLine_queue ..)⟩

theorem sideEffect_breakHome (s : State) (h : Home) : s.SideEffect ∅ (s.breakHome h) := by
  have hif : ∀ (u : State) (X : LineId), u.SideEffect ∅ (if h.includes X then u.breakLine X else u) := by
    intro u X
    split
    · exact sideEffect_breakLine u X
    · exact .refl _ u
  exact (hif s .A).trans (hif _ .B)

theorem sideEffect_judgeLine (s : State) (p : Entry → Bool) (X : LineId) : s.SideEffect ∅ (s.judgeLine p X) := by
  unfold State.judgeLine
  split
  · exact sideEffect_breakLine s X
  · exact .refl _ s

theorem sideEffect_judge (s : State) (p : Entry → Bool) : s.SideEffect ∅ (s.judge p) :=
  (sideEffect_judgeLine s p .A).trans (sideEffect_judgeLine _ p .B)

/-! ## Entries, records, gates and notices -/

theorem sideEffect_putTail (s : State) (l : Fin 8) {e : Entry} (he : e.Fresh) : s.SideEffect ∅ (s.putTail l e) :=
  ⟨beside_of_eq rfl rfl rfl fun _ _ => .inl (putTail_eng ..), queueGrows_putTail s l he⟩

theorem sideEffect_put (s : State) (p : Placement) (l : Fin 8) {e : Entry} (he : e.Fresh) (hpoll : e.job.isPoll = false) :
    s.SideEffect ∅ (s.put p l e) := by
  cases p with
  | head => exact ⟨beside_of_eq rfl rfl rfl fun X _ => .inl (put_eng s .head l e X), queueGrows_putHead s l he hpoll⟩
  | tail => exact sideEffect_putTail s l he

theorem sideEffect_modCar (s : State) (i : CarIx) {f : Car → Car} (hf : ∀ c : Car, c.Carries (f c)) :
    s.SideEffect ∅ (s.modCar i f) where
  halt := modCar_halt ..
  eng _ _ := .inl (modCar_eng ..)
  car j _ := by
    rw [car_modCar_ite]
    split
    · exact hf _
    · exact .refl _
  link := linkKept_refl s
  outbox := List.prefix_refl _
  toQueueGrows := .of_queue_eq (modCar_queue ..)

theorem sideEffect_modGate (s : State) (g : Fin 8) (f : Gate → Gate) : s.SideEffect ∅ (s.modGate g f) :=
  ⟨beside_of_eq rfl rfl rfl fun _ _ => .inl (modGate_eng ..), .of_queue_eq rfl⟩

theorem sideEffect_inSomeOrder {α : Type} (s : State) (l : List α) : s.SideEffect ∅ (s.inSomeOrder l).2 :=
  ⟨beside_of_eq rfl rfl rfl fun _ _ => .inl (inSomeOrder_eng ..), .of_queue_eq rfl⟩

theorem sideEffect_notify (s : State) (n : Notice) : s.SideEffect ∅ (s.notify n) where
  halt := notify_halt ..
  eng _ _ := .inl (notify_eng ..)
  car _ _ := .refl _
  link := linkKept_notify s n
  outbox := outbox_grows_notify s n
  toQueueGrows := .of_queue_eq (notify_queue ..)

/-! ## Caps and the gap evaluation -/

theorem sideEffect_ensureDrive (s : State) (i : CarIx) (urgent : Bool) : s.SideEffect ∅ (s.ensureDrive i urgent) := by
  unfold State.ensureDrive
  dsimp only
  split
  · exact (sideEffect_putTail s _ (fresh_drive i)).trans (sideEffect_judge ..)
  · next k hlevel =>
    split
    · next hless =>
      have hmove : s.SideEffect ∅ (s.moveToTail (Entry.isDriveOf i) ((s.car i).neededLevel urgent)) :=
        ⟨beside_of_eq (moveToTail_halt ..) (moveToTail_cars ..) (moveToTail_link ..)
          fun _ _ => .inl (moveToTail_eng ..), queueGrows_moveToTail hlevel hless⟩
      exact hmove.trans (sideEffect_judge ..)
    · exact .refl _ s

theorem sideEffect_recompute (s : State) (i : CarIx) : s.SideEffect ∅ (s.recompute i) := by
  unfold State.recompute
  split
  · exact .refl _ s
  · refine .trans ?_ (sideEffect_ensureDrive _ i false)
    exact sideEffect_modCar s i fun _ => ⟨rfl, id⟩

theorem sideEffect_applyHeadCap (s : State) (i : CarIx) (code : Nat) : s.SideEffect ∅ (s.applyHeadCap i code) := by
  refine .trans ?_ (sideEffect_recompute _ i)
  exact sideEffect_modCar s i fun _ => ⟨rfl, id⟩

theorem sideEffect_takeLimit (s : State) (i : CarIx) (limit : Nat) : s.SideEffect ∅ (s.takeLimit i limit) := by
  have hcap : ∀ cap, s.SideEffect ∅ (s.modCar i fun c => { c with gapCap := cap }) := fun cap =>
    sideEffect_modCar s i fun _ => ⟨rfl, id⟩
  obtain ⟨cap, ht | ⟨n, ht⟩⟩ := takeLimit_cases s i limit <;> rw [ht]
  · exact (hcap cap).trans (sideEffect_recompute ..)
  · exact ((hcap cap).trans (sideEffect_notify ..)).trans (sideEffect_recompute ..)

theorem sideEffect_evaluateGaps (s : State) : s.SideEffect ∅ s.evaluateGaps :=
  evaluateGaps_keeps (s.SideEffect ∅ ·) (.refl _ s) fun u i limit _ hu => hu.trans (sideEffect_takeLimit u i limit)

/-! ## Gate opens -/

theorem sideEffect_wake (s : State) (i : CarIx) : s.SideEffect ∅ (s.wake i) := by
  unfold State.wake
  split
  · exact .refl _ s
  · refine .trans ?_ (sideEffect_breakHome _ _)
    exact sideEffect_modCar s i fun _ => ⟨rfl, fun _ => rfl⟩

/-- A TEXT enters the queue without a seat. -/
theorem sideEffect_enterText (s : State) (p : Placement) (i : CarIx) {x : Text} (hseat : x.seat = none) :
    s.SideEffect ∅ (s.enterText p i x) := by
  have hfresh : Entry.Fresh { job := .text i { x with stamp := s.nextStamp i }, engaged := none } :=
    ⟨rfl, fun _ _ hjob => by cases hjob; exact hseat⟩
  exact ((sideEffect_put s p x.level hfresh rfl).trans (sideEffect_wake ..)).trans (sideEffect_judge ..)

theorem sideEffect_openGate (s : State) (g : Fin 8) : s.SideEffect ∅ (s.openGate g).1 := by
  unfold State.openGate
  dsimp only
  split
  · dsimp only
    refine .trans ?_ (sideEffect_enterText _ _ _ rfl)
    exact sideEffect_modGate ..
  · dsimp only
    refine .trans ?_ (sideEffect_applyHeadCap ..)
    exact sideEffect_modGate ..
  · split
    · exact sideEffect_modGate s g fun x => { x with credit := satAdd1 15 x.credit }
    · exact .refl _ s

theorem sideEffect_sourceEvent (s : State) (src : Source) : s.SideEffect ∅ (s.sourceEvent src) :=
  foldl_keeps (s.SideEffect ∅) _ (fun u g hu => hu.trans (sideEffect_openGate u g)) _ _ (sideEffect_inSomeOrder s _)

/-! ## The roster and the ask list at a cycle start -/

theorem sideEffect_duePoll (s : State) (i : CarIx) : s.SideEffect ∅ (s.duePoll i) := by
  unfold State.duePoll
  dsimp only
  split
  · exact .refl _ s
  · split
    · refine .trans (sideEffect_putTail s (s.car i).pollLevel (fresh_poll i)) ?_
      exact sideEffect_modCar _ i fun _ => ⟨rfl, id⟩
    · exact sideEffect_modCar s i fun _ => ⟨rfl, id⟩

theorem sideEffect_generatePolls (s : State) (X : LineId) : s.SideEffect ∅ (s.generatePolls X) :=
  foldl_keeps (s.SideEffect ∅) _ (fun u i hu => hu.trans (sideEffect_duePoll u i)) _ _ (sideEffect_inSomeOrder s _)

theorem sideEffect_countAsks (s : State) (X : LineId) : s.SideEffect ∅ (s.countAsks X) :=
  foldl_keeps (s.SideEffect ∅) _ (fun u _ hu => hu.trans (sideEffect_notify u _)) _ _
    ⟨beside_of_eq rfl rfl rfl fun _ _ => .inl (with_asks_eng ..), .of_queue_eq rfl⟩

end Sys2Proof.Machine
end

section
/-! SUPPORT. A cycle end and a cycle start (R31): every effect comes once, in an order left open (log 4), so that one effect
is found by what all the others leave alone. -/

namespace Sys2Proof.Machine

/-- A fold without repetition does `a` once; what every other step does, it does before and after. -/
theorem foldl_once {α : Type} {f : State → α → State} {R : State → State → Prop} (hrefl : ∀ s, R s s)
    (htrans : ∀ s t u, R s t → R t u → R s u) {a : α} (hstep : ∀ s b, b ≠ a → R s (f s b)) {l : List α} (hl : l.Nodup)
    (ha : a ∈ l) (s : State) : ∃ u, R s u ∧ R (f u a) (l.foldl f s) := by
  obtain ⟨before, after, rfl⟩ := List.append_of_mem ha
  have hfold : ∀ m : List α, a ∉ m → ∀ t, R t (m.foldl f t) := fun m hm t =>
    List.foldlRecOn m f (hrefl t) fun u hu b hb => htrans _ _ _ hu (hstep u b fun h => hm (h ▸ hb))
  obtain ⟨hbefore, hafter⟩ : a ∉ before ∧ a ∉ after := by
    have hnotin : a ∉ before ++ after := (List.nodup_cons.mp (List.nodup_middle.mp hl)).1
    simpa using hnotin
  rw [List.foldl_append, List.foldl_cons]
  exact ⟨_, hfold before hbefore s, hfold after hafter _⟩

/-! ## The effects of a cycle end -/

theorem sideEffect_modEng (s : State) (X : LineId) (f : Engine → Engine) : s.SideEffect {X} (s.modEng X f) :=
  ⟨beside_of_eq (modEng_halt ..) (modEng_cars ..) (modEng_link ..) fun _ hY => .inl (eng_modEng_ne s hY f),
    .of_queue_eq (modEng_queue ..)⟩

/-- The record at a cycle end of line `X` whose growth is `g` (R111, R112). -/
def Car.atEndOf (X : LineId) (g : Nat) (c : Car) : Car :=
  if c.present && c.home.countingLine == X then c.atCycleEnd g else c

theorem Car.atEndOf_eq (X : LineId) (g : Nat) (c : Car) :
    c.atEndOf X g = { c with uncertainty := (c.atEndOf X g).uncertainty, heardMark := (c.atEndOf X g).heardMark } := by
  unfold Car.atEndOf
  split <;> rfl

theorem Car.atEndOf_home (X : LineId) (g : Nat) (c : Car) : (c.atEndOf X g).home = c.home := by rw [Car.atEndOf_eq]

theorem growUncertainty_car (s : State) (X : LineId) (i : CarIx) :
    (s.growUncertainty X).car i = (s.car i).atEndOf X (s.eng X).growth := by
  simp [State.growUncertainty, State.car, Car.atEndOf]

theorem sideEffect_growUncertainty (s : State) (X : LineId) : s.SideEffect {X} (s.growUncertainty X) where
  halt := growUncertainty_halt ..
  eng _ _ := .inl (growUncertainty_eng ..)
  car i hi := by
    have hother : ((s.car i).home.countingLine == X) = false := beq_false_of_ne hi
    rw [growUncertainty_car, Car.atEndOf, hother, Bool.and_false]
    exact .refl _
  link := by simp [State.LinkKept]
  outbox := by simp
  toQueueGrows := .of_queue_eq (growUncertainty_queue ..)

theorem sideEffect_endEffect (s : State) (X : LineId) (e : EndEffect) : s.SideEffect {X} (s.endEffect X e) := by
  cases e with
  | growth => exact sideEffect_growUncertainty s X
  | evaluation => exact (sideEffect_evaluateGaps s).of_none _
  | gates => exact (sideEffect_sourceEvent s _).of_none _
  | idle => exact sideEffect_modEng s X _

/-- Only the idle counter is for the line's own engine. -/
theorem endEffect_mayBreak (s : State) (X : LineId) {e : EndEffect} (he : e ≠ .idle) :
    (s.eng X).MayBreak ((s.endEffect X e).eng X) := by
  cases e with
  | growth => exact .inl (growUncertainty_eng ..)
  | evaluation => exact (sideEffect_evaluateGaps s).eng X (Set.notMem_empty X)
  | gates => exact (sideEffect_sourceEvent s _).eng X (Set.notMem_empty X)
  | idle => exact absurd rfl he

/-- Only the growth is for the cars that count on the line. -/
theorem endEffect_carries (s : State) (X : LineId) {e : EndEffect} (he : e ≠ .growth) (i : CarIx) :
    (s.car i).Carries ((s.endEffect X e).car i) := by
  cases e with
  | growth => exact absurd rfl he
  | evaluation => exact (sideEffect_evaluateGaps s).car i (Set.notMem_empty _)
  | gates => exact (sideEffect_sourceEvent s _).car i (Set.notMem_empty _)
  | idle => exact car_congr (modEng_cars s X Engine.countIdle) i ▸ .refl _

theorem Engine.MayBreak.growth {e f : Engine} (h : e.MayBreak f) : f.growth = e.growth := by
  rw [h.eq_with_breakPending]
  rfl

theorem endEffect_growth (s : State) (X : LineId) (e : EndEffect) :
    ((s.endEffect X e).eng X).growth = (s.eng X).growth := by
  by_cases he : e = .idle
  · subst he
    rw [State.endEffect, eng_modEng]
    rfl
  · exact (endEffect_mayBreak s X he).growth

/-! ## The cycle end -/

theorem endEffects_nodup : [EndEffect.growth, .evaluation, .gates, .idle].Nodup := by decide

theorem sideEffect_endCycle (s : State) (X : LineId) : s.SideEffect {X} (s.endCycle X) :=
  foldl_keeps (s.SideEffect {X}) _ (fun u e hu => hu.trans (sideEffect_endEffect u X e)) _ _
    ((sideEffect_inSomeOrder s _).of_none _)

/-- The line's own engine counts idle, and may take a break event (R40). -/
theorem endCycle_unbroken_self (s : State) (X : LineId) :
    ((s.endCycle X).eng X).unbroken = (s.eng X).countIdle.unbroken := by
  have horder := inSomeOrder_perm s [EndEffect.growth, .evaluation, .gates, .idle]
  obtain ⟨u, hbefore, hafter⟩ := foldl_once (R := fun u v => (v.eng X).unbroken = (u.eng X).unbroken)
    (fun _ => rfl) (fun _ _ _ h₁ h₂ => h₂.trans h₁) (fun u e he => (endEffect_mayBreak u X he).unbroken)
    (horder.nodup_iff.mpr endEffects_nodup)
    (horder.mem_iff.mpr (by decide)) (s.inSomeOrder _).2
  rw [inSomeOrder_eng] at hbefore
  rw [State.endEffect, eng_modEng] at hafter
  exact hafter.trans (congrArg Engine.countIdle hbefore)

/-- The growth finds a record that has been carried along, and what it makes of it is carried along (R112). -/
theorem endCycle_car (s : State) (X : LineId) (i : CarIx) : ∃ c,
    (s.car i).Carries c ∧ (c.atEndOf X (s.eng X).growth).Carries ((s.endCycle X).car i) := by
  have horder := inSomeOrder_perm s [EndEffect.growth, .evaluation, .gates, .idle]
  obtain ⟨u, ⟨hgrowth, hbefore⟩, -, hafter⟩ := foldl_once
    (R := fun u v => (v.eng X).growth = (u.eng X).growth ∧ (u.car i).Carries (v.car i)) (fun _ => ⟨rfl, .refl _⟩)
    (fun _ _ _ h₁ h₂ => ⟨h₂.1.trans h₁.1, h₁.2.trans h₂.2⟩)
    (fun u e he => ⟨endEffect_growth u X e, endEffect_carries u X he i⟩) (horder.nodup_iff.mpr endEffects_nodup)
    (horder.mem_iff.mpr (by decide)) (s.inSomeOrder _).2
  rw [inSomeOrder_eng] at hgrowth
  rw [State.endEffect, growUncertainty_car, hgrowth] at hafter
  exact ⟨u.car i, hbefore, hafter⟩

/-! ## The effects of a cycle start -/

theorem sideEffect_changeLineState (s : State) (X : LineId) (st : LineState) :
    s.SideEffect {X} (s.changeLineState X st) := by
  unfold State.changeLineState
  split
  · exact .refl _ s
  · exact (sideEffect_modEng s X _).trans ((sideEffect_notify _ _).of_none _)

theorem changeLineState_eng_self (s : State) (X : LineId) (st : LineState) :
    (s.changeLineState X st).eng X = { s.eng X with state := st } := by
  unfold State.changeLineState
  split
  · next h => rw [← h]
  · rw [notify_eng, eng_modEng]

/-- The engine after its own steps at a halt cycle restart (R31, R33, R161). -/
def Engine.startedInRun (X : LineId) (latch : Bool) (e : Engine) : Engine :=
  let plan := e.staged.getD e.plan
  { e with
    plan := plan, staged := none, cycle := (e.cycle + 1) % 65536, state := .run, breakPending := false
    joinOpen := false, traffic := false, cycleTimer := plan.cycleTicks, slotTimer := plan.slotTicks }
  |>.beginMark X latch

theorem startEngine_eng_self (s : State) (X : LineId) :
    (s.startEngine X .haltRestart).eng X = (s.eng X).startedInRun X s.halt.latch := by
  simp [State.startEngine, changeLineState_eng_self, State.resolvedState, State.joinOpenFor, Engine.startedInRun]

theorem sideEffect_startEngine (s : State) (X : LineId) (k : StartKind) : s.SideEffect {X} (s.startEngine X k) := by
  unfold State.startEngine
  dsimp only
  refine .trans ?_ (sideEffect_modEng _ X _)
  refine .trans ?_ (sideEffect_modEng _ X _)
  refine .trans ?_ (sideEffect_changeLineState _ X _)
  exact (sideEffect_modEng s X _).trans (sideEffect_modEng _ X _)

theorem sideEffect_startEffect (s : State) (X : LineId) (k : StartKind) (e : StartEffect) :
    s.SideEffect {X} (s.startEffect X k e) := by
  cases e with
  | engine => exact sideEffect_startEngine s X k
  | polls => exact (sideEffect_generatePolls s X).of_none _
  | asks => exact (sideEffect_countAsks s X).of_none _

theorem startEffect_carries (s : State) (X : LineId) (k : StartKind) (e : StartEffect) (i : CarIx) :
    (s.car i).Carries ((s.startEffect X k e).car i) := by
  cases e with
  | engine => exact car_congr (startEngine_cars s X k) i ▸ .refl _
  | polls => exact (sideEffect_generatePolls s X).car i (Set.notMem_empty _)
  | asks => exact (sideEffect_countAsks s X).car i (Set.notMem_empty _)

theorem startEffect_eng_eq (s : State) (X : LineId) (k : StartKind) {e : StartEffect} (he : e ≠ .engine) :
    (s.startEffect X k e).eng X = s.eng X := by
  cases e with
  | engine => exact absurd rfl he
  | polls => exact generatePolls_eng ..
  | asks => exact countAsks_eng ..

/-! ## The cycle start -/

theorem sideEffect_startCycle (s : State) (X : LineId) (k : StartKind) : s.SideEffect {X} (s.startCycle X k) :=
  foldl_keeps (s.SideEffect {X}) _ (fun u e hu => hu.trans (sideEffect_startEffect u X k e)) _ _
    ((sideEffect_inSomeOrder s _).of_none _)

theorem startCycle_carries (s : State) (X : LineId) (k : StartKind) (i : CarIx) :
    (s.car i).Carries ((s.startCycle X k).car i) :=
  foldl_keeps (fun u => (s.car i).Carries (u.car i)) _ (fun u e hu => hu.trans (startEffect_carries u X k e i)) _ _
    ((sideEffect_inSomeOrder s _).car i (Set.notMem_empty _))

/-- Of the line's own engine, the engine's steps are all there is (R31). -/
theorem startCycle_eng_self (s : State) (X : LineId) :
    (s.startCycle X .haltRestart).eng X = (s.eng X).startedInRun X s.halt.latch := by
  have horder := inSomeOrder_perm s [StartEffect.engine, .polls, .asks]
  obtain ⟨u, ⟨hhalt, hbefore⟩, -, hafter⟩ := foldl_once
    (R := fun u v => v.halt = u.halt ∧ v.eng X = u.eng X) (fun _ => ⟨rfl, rfl⟩)
    (fun _ _ _ h₁ h₂ => ⟨h₂.1.trans h₁.1, h₂.2.trans h₁.2⟩)
    (fun u e he => ⟨startEffect_halt u X .haltRestart e, startEffect_eng_eq u X .haltRestart he⟩)
    (horder.nodup_iff.mpr (by decide)) (horder.mem_iff.mpr (List.mem_cons_self ..)) (s.inSomeOrder _).2
  rw [inSomeOrder_halt] at hhalt
  rw [inSomeOrder_eng] at hbefore
  refine hafter.trans ?_
  rw [State.startEffect, startEngine_eng_self, hhalt, hbefore]

end Sys2Proof.Machine
end

section
/-! SUPPORT. The slot that is abandoned (R39, R59), the halt cycle restart (R32, R161) and the stop of one line at the
setting of the latch (R160). -/

namespace Sys2Proof.Machine

/-! ## Abandoning a slot -/

/-- The entry is free when engine `X` had engaged it (R39). -/
def Entry.freed (X : LineId) (e : Entry) : Entry := if e.engaged == some X then { e with engaged := none } else e

/-- A POLL that engine `X` has engaged. -/
def Entry.isPollBy (X : LineId) (e : Entry) : Bool := e.engaged == some X && e.job.isPoll

theorem Entry.isPollBy_iff {X : LineId} {e : Entry} :
    e.isPollBy X = true ↔ e.engaged = some X ∧ e.job.isPoll = true := by
  simp [Entry.isPollBy]

theorem Entry.freed_of_engaged {X : LineId} {e : Entry} (h : e.engaged = some X) : e.freed X = ⟨e.job, none⟩ := by
  simp [Entry.freed, h]

theorem Entry.freed_of_ne {X : LineId} {e : Entry} (h : e.engaged ≠ some X) : e.freed X = e := by
  simp [Entry.freed, h]

@[simp] theorem Entry.freed_job (X : LineId) (e : Entry) : (e.freed X).job = e.job := by
  unfold Entry.freed
  split <;> rfl

theorem Entry.freed_engaged_ne (X : LineId) (e : Entry) : (e.freed X).engaged ≠ some X := by
  by_cases h : e.engaged = some X
  · simp [Entry.freed_of_engaged h]
  · rwa [Entry.freed_of_ne h]

theorem Entry.engaged_of_freed {X Z : LineId} {e : Entry} (h : (e.freed X).engaged = some Z) : e.engaged = some Z := by
  by_cases he : e.engaged = some X
  · simp [Entry.freed_of_engaged he] at h
  · rwa [Entry.freed_of_ne he] at h

theorem returnPoll_eq (s : State) (X : LineId) :
    s.returnPoll X = s.mapLevels fun l =>
      (l.filter (Entry.isPollBy X)).map (fun e => { e with engaged := none }) ++ l.filter fun e => !e.isPollBy X := by
  refine congrArg s.mapLevels (funext fun l => congrArg₂ (· ++ ·)
    (congrArg _ (List.filter_congr fun e _ => ?_)) (List.filter_congr fun e _ => congrArg (!·) ?_))
  all_goals rcases e with ⟨_ | _ | _ | _, _⟩ <;> rfl

theorem disengage_eq (s : State) (X : LineId) : s.disengage X = s.mapEntries (Entry.freed X) := rfl

/-- The POLL of the slot goes to the head of its level, and every entry is freed (R39). -/
theorem abandonSlot_queue (s : State) (X : LineId) (l : Fin 8) :
    (s.abandonSlot X).queue[l] =
      (s.queue[l].filter (Entry.isPollBy X) ++ s.queue[l].filter fun e => !e.isPollBy X).map (Entry.freed X) := by
  have hfreed : ∀ e ∈ s.queue[l].filter (Entry.isPollBy X), ({ e with engaged := none } : Entry).freed X = e.freed X := by
    intro e he
    have hengaged := (Entry.isPollBy_iff.mp (List.mem_filter.mp he).2).1
    rw [Entry.freed_of_engaged hengaged, Entry.freed_of_ne (by simp)]
  have hqueue : (s.abandonSlot X).queue[l] =
      ((s.queue[l].filter (Entry.isPollBy X)).map (fun e : Entry => { e with engaged := none }) ++
        s.queue[l].filter fun e : Entry => !e.isPollBy X).map (Entry.freed X) := by
    simp [State.abandonSlot, disengage_eq, returnPoll_eq, State.mapEntries, State.mapLevels]
  rw [hqueue, List.map_append, List.map_append, List.map_map]
  exact congrArg (· ++ _) (List.map_congr_left hfreed)

theorem mem_abandonSlot {s : State} {X : LineId} {l : Fin 8} {x : Entry} :
    x ∈ (s.abandonSlot X).queue[l] ↔ ∃ e ∈ s.queue[l], e.freed X = x := by
  rw [abandonSlot_queue, ((List.filter_append_perm (Entry.isPollBy X) s.queue[l]).map _).mem_iff, List.mem_map]

theorem abandonSlot_holds {s : State} {l : Fin 8} {e : Entry} (X : LineId) (h : s.Holds l e) :
    (s.abandonSlot X).Holds l (e.freed X) := by
  obtain ⟨k, hk, hkl, hmem⟩ := h
  exact ⟨k, hk, by rwa [Entry.freed_job], mem_abandonSlot.mpr ⟨e, hmem, rfl⟩⟩

theorem forall_entries_abandonSlot {s : State} {X : LineId} {Q : Entry → Prop} (h : ∀ e ∈ s.entries, Q (e.freed X)) :
    ∀ e ∈ (s.abandonSlot X).entries, Q e := by
  intro e he
  obtain ⟨l, hl⟩ := mem_entries.mp he
  obtain ⟨x, hx, rfl⟩ := mem_abandonSlot.mp hl
  exact h x (mem_entries.mpr ⟨l, hx⟩)

/-- The engine's share of the abandoned slot (R39). -/
def Engine.abandoned (e : Engine) : Engine :=
  { e with burst := none, poll := none, ranging := Ranging.idle, joinRx := none, listening := false }

theorem abandonSlot_eng_self (s : State) (X : LineId) : (s.abandonSlot X).eng X = (s.eng X).abandoned := by
  rw [State.abandonSlot, eng_modEng, disengage_eng, returnPoll_eng]
  rfl

theorem beside_abandonSlot (s : State) (X : LineId) : s.Beside {X} (s.abandonSlot X) :=
  beside_of_eq (abandonSlot_halt ..) (abandonSlot_cars ..) (abandonSlot_link ..) fun Y hY => .inl <| by
    rw [State.abandonSlot, eng_modEng_ne _ hY, disengage_eng, returnPoll_eng]

/-! ## The halt cycle restart -/

/-- The engine after a halt cycle restart (R161). -/
def Engine.haltRestarted (X : LineId) (latch : Bool) (e : Engine) : Engine :=
  { e.abandoned with restartPending := false }.countIdle.startedInRun X latch

/-- A cycle start does not read the break-pending flag, which it clears. -/
theorem Engine.startedInRun_congr {e f : Engine} (h : e.unbroken = f.unbroken) (X : LineId) (latch : Bool) :
    e.startedInRun X latch = f.startedInRun X latch := by
  rw [Engine.eq_of_unbroken_eq h]
  rfl

/-- Once its slot is abandoned, a line that restarts has a cycle end and a cycle start (R161). -/
theorem sideEffect_restartCycle (s : State) (X : LineId) : (s.abandonSlot X).SideEffect {X} (s.restartCycle X) :=
  ((sideEffect_modEng _ X _).trans (sideEffect_endCycle _ X)).trans (sideEffect_startCycle _ X _)

theorem beside_restartCycle (s : State) (X : LineId) : s.Beside {X} (s.restartCycle X) :=
  (beside_abandonSlot s X).trans (sideEffect_restartCycle s X).toBeside

theorem restartCycle_eng_self (s : State) (X : LineId) :
    (s.restartCycle X).eng X = (s.eng X).haltRestarted X s.halt.latch := by
  rw [State.restartCycle, startCycle_eng_self, Engine.startedInRun_congr (endCycle_unbroken_self ..), eng_modEng,
    abandonSlot_eng_self, endCycle_halt, modEng_halt, abandonSlot_halt]
  rfl

theorem restartCycle_car (s : State) (X : LineId) (i : CarIx) : ∃ c,
    (s.car i).Carries c ∧ (c.atEndOf X (s.eng X).growth).Carries ((s.restartCycle X).car i) := by
  obtain ⟨c, hbefore, hafter⟩ :=
    endCycle_car ((s.abandonSlot X).modEng X fun e => { e with restartPending := false }) X i
  rw [eng_modEng, abandonSlot_eng_self] at hafter
  rw [modEng_car, abandonSlot_car] at hbefore
  exact ⟨c, hbefore, hafter.trans (startCycle_carries _ X _ i)⟩

/-! ## The stop of one line -/

theorem stopsAtOnce_iff {s : State} {X : LineId} :
    s.stopsAtOnce X = true ↔
      s.inService X = true ∧ (s.halt.mode = .immediate ∨ (s.eng X).burst.any Burst.cutByHalt = true) := by
  simp only [State.stopsAtOnce, Bool.and_eq_true, Bool.or_eq_true, beq_iff_eq]
  refine and_congr_right fun _ => or_congr_right ?_
  rcases (s.eng X).burst with _ | ⟨_ | (_ | _) | _ | _ | _, _⟩ <;> simp [Burst.cutByHalt]

/-- Whether a line stops at once does not turn on break events. -/
theorem stopsAtOnce_congr {s t : State} {X : LineId} (hhalt : t.halt = s.halt) (heng : (s.eng X).MayBreak (t.eng X)) :
    t.stopsAtOnce X = s.stopsAtOnce X := by
  rw [State.stopsAtOnce, State.stopsAtOnce, State.inService, State.inService, hhalt, heng.eq_with_breakPending]

theorem stopLine_outOfService {s : State} {X : LineId} (h : s.inService X = false) : s.stopLine X = s := by
  have hout : (s.eng X).state.inService = false := h
  simp [State.stopLine, hout]

theorem stopLine_atOnce {s : State} {X : LineId} (h : s.stopsAtOnce X = true) : s.stopLine X = s.restartCycle X := by
  obtain ⟨hin, hcut⟩ := stopsAtOnce_iff.mp h
  have hin' : (s.eng X).state.inService = true := hin
  simp [State.stopLine, hin', hcut]

theorem stopLine_runsOut {s : State} {X : LineId} (hin : s.inService X = true) (h : s.stopsAtOnce X = false) :
    s.stopLine X = s.modEng X fun e => { e with restartPending := true, joinRx := none, listening := false } := by
  have hin' : (s.eng X).state.inService = true := hin
  have hcut : ¬(s.halt.mode = .immediate ∨ (s.eng X).burst.any Burst.cutByHalt = true) := fun hcut => by
    simp [stopsAtOnce_iff.mpr ⟨hin, hcut⟩] at h
  simp only [State.stopLine, hin', Bool.not_true, if_neg hcut, Bool.false_eq_true, if_false]

/-- A line that does not stop at once touches at most its own engine. -/
theorem sideEffect_stopLine {s : State} {X : LineId} (h : s.stopsAtOnce X = false) : s.SideEffect {X} (s.stopLine X) := by
  cases hin : s.inService X with
  | false =>
    rw [stopLine_outOfService hin]
    exact .refl _ s
  | true =>
    rw [stopLine_runsOut hin h]
    exact sideEffect_modEng s X _

theorem beside_stopLine (s : State) (X : LineId) : s.Beside {X} (s.stopLine X) := by
  cases h : s.stopsAtOnce X with
  | false => exact (sideEffect_stopLine h).toBeside
  | true =>
    rw [stopLine_atOnce h]
    exact beside_restartCycle s X

theorem stopLine_ctx (s : State) (X : LineId) : ((s.stopLine X).eng X).ctx = (s.eng X).ctx := by
  cases h : s.stopsAtOnce X with
  | true =>
    rw [stopLine_atOnce h, restartCycle_eng_self]
    rfl
  | false =>
    cases hin : s.inService X with
    | false => rw [stopLine_outOfService hin]
    | true => rw [stopLine_runsOut hin h, eng_modEng]

/-- A cycle end reaches the cars that count on a line that stops at once (R112, R161). -/
theorem stopLine_car (s : State) (X : LineId) (i : CarIx) : ∃ c, (s.car i).Carries c ∧
    (if s.stopsAtOnce X then c.atEndOf X (s.eng X).growth else c).Carries ((s.stopLine X).car i) := by
  cases h : s.stopsAtOnce X with
  | true =>
    rw [stopLine_atOnce h]
    exact restartCycle_car s X i
  | false =>
    refine ⟨s.car i, .refl _, ?_⟩
    cases hin : s.inService X with
    | false =>
      rw [stopLine_outOfService hin]
      exact .refl _
    | true =>
      rw [stopLine_runsOut hin h, modEng_car]
      exact .refl _

/-! ## The queue at the stop of one line -/

/-- An entry after the stop of line `X`: free when the line stopped at once (R39). -/
def Entry.haltedBy (s : State) (X : LineId) (e : Entry) : Entry := if s.stopsAtOnce X then e.freed X else e

theorem stopLine_holds {s : State} {l : Fin 8} {e : Entry} (X : LineId) (h : s.Holds l e) :
    (s.stopLine X).Holds l (e.haltedBy s X) := by
  unfold Entry.haltedBy
  split
  · next honce =>
    rw [stopLine_atOnce honce]
    exact (sideEffect_restartCycle s X).holds l _ (abandonSlot_holds X h)
  · next honce => exact (sideEffect_stopLine (Bool.eq_false_of_not_eq_true honce)).holds l e h

/-- A property that fresh entries have, and that an entry keeps when it is freed. -/
theorem forall_entries_stopLine {s : State} {X : LineId} {Q : Entry → Prop} (hfresh : ∀ e : Entry, e.Fresh → Q e)
    (hfreed : ∀ e, Q e → Q (e.freed X)) (hs : ∀ e ∈ s.entries, Q e) : ∀ e ∈ (s.stopLine X).entries, Q e := by
  cases h : s.stopsAtOnce X with
  | true =>
    rw [stopLine_atOnce h]
    exact (sideEffect_restartCycle s X).forall_entries hfresh
      (forall_entries_abandonSlot fun e he => hfreed e (hs e he))
  | false => exact (sideEffect_stopLine h).forall_entries hfresh hs

theorem engaged_ne_of_fresh {e : Entry} (h : e.Fresh) (X : LineId) : e.engaged ≠ some X := by simp [h.engaged]

/-- A line that stops at once has engaged nothing (R39). -/
theorem engaged_ne_of_mem_stopLine {s : State} {X : LineId} (h : s.stopsAtOnce X = true) :
    ∀ e ∈ (s.stopLine X).entries, e.engaged ≠ some X := by
  rw [stopLine_atOnce h]
  exact (sideEffect_restartCycle s X).forall_entries (fun e he => engaged_ne_of_fresh he X)
    (forall_entries_abandonSlot fun e _ => e.freed_engaged_ne X)

/-! ## The cut POLL -/

/-- The POLLs of level `l` that lines of `cut` have engaged are all `j`. -/
def State.CutPollsAre (s : State) (cut : LineId → Bool) (l : Fin 8) (j : Job) : Prop :=
  ∀ x ∈ s.queue[l], x.job.isPoll = true → ∀ Z, x.engaged = some Z → cut Z = true → x.job = j

/-- The first POLL of level `l` is `j`, and free. -/
def State.PollLeads (s : State) (l : Fin 8) (j : Job) : Prop :=
  (s.queue[l].find? fun x => x.job.isPoll) = some { job := j, engaged := none }

theorem isDrive_of_isPoll {j : Job} (h : j.isPoll = true) : j.isDrive = false := by
  cases j with
  | poll i => rfl
  | _ => cases h

theorem State.QueueGrows.cutPollsAre {s t : State} (h : s.QueueGrows t) {cut : LineId → Bool} {l : Fin 8} {j : Job}
    (hs : s.CutPollsAre cut l j) : t.CutPollsAre cut l j := by
  intro x hx hpoll Z hZ hcut
  obtain hfresh | ⟨k, hk, hkl⟩ := h.added l x hx
  · exact absurd hZ (engaged_ne_of_fresh hfresh Z)
  · obtain rfl := hkl (isDrive_of_isPoll hpoll)
    exact hs x hk hpoll Z hZ hcut

theorem cutPollsAre_abandonSlot {s : State} {cut : LineId → Bool} {l : Fin 8} {j : Job} (h : s.CutPollsAre cut l j)
    (X : LineId) : (s.abandonSlot X).CutPollsAre cut l j := by
  intro x hx hpoll Z hZ hcut
  obtain ⟨e, he, rfl⟩ := mem_abandonSlot.mp hx
  rw [Entry.freed_job] at hpoll ⊢
  exact h e he hpoll Z (Entry.engaged_of_freed hZ) hcut

/-- The first POLL of a level once the slot is abandoned: one of the slot, and otherwise the one that was first. -/
theorem abandonSlot_firstPoll (s : State) (X : LineId) (l : Fin 8) :
    ((s.abandonSlot X).queue[l].find? fun x => x.job.isPoll) =
      ((s.queue[l].find? (Entry.isPollBy X)).or (s.queue[l].find? fun x => x.job.isPoll)).map (Entry.freed X) := by
  have hfreed : ((fun x : Entry => x.job.isPoll) ∘ Entry.freed X) = fun x => x.job.isPoll :=
    funext fun e => by simp
  have hown : (fun x : Entry => decide (x.isPollBy X = true ∧ x.job.isPoll = true)) = Entry.isPollBy X := by
    funext e
    rw [Bool.eq_iff_iff]
    simp [Entry.isPollBy_iff]
  rw [abandonSlot_queue, List.find?_map, hfreed, List.find?_append, List.find?_filter, List.find?_filter, hown]
  cases hmine : s.queue[l].find? (Entry.isPollBy X) with
  | some e => rfl
  | none =>
    have hothers : ∀ e ∈ s.queue[l], decide ((!e.isPollBy X) = true ∧ e.job.isPoll = true) = e.job.isPoll := by
      intro e he
      have : e.isPollBy X = false := by simpa using List.find?_eq_none.mp hmine e he
      simp [this]
    rw [Option.none_or, Option.none_or, List.find?_congr hothers]

theorem pollLeads_abandonSlot {s : State} {X : LineId} {cut : LineId → Bool} {l : Fin 8} {j : Job}
    (hall : s.CutPollsAre cut l j) (hX : cut X = true) (h : s.PollLeads l j) : (s.abandonSlot X).PollLeads l j := by
  rw [State.PollLeads, abandonSlot_firstPoll]
  cases hmine : s.queue[l].find? (Entry.isPollBy X) with
  | none =>
    rw [Option.none_or, h, Option.map_some, Entry.freed_of_ne (by simp)]
  | some e =>
    obtain ⟨hengaged, hpoll⟩ := Entry.isPollBy_iff.mp (List.find?_some hmine)
    rw [Option.some_or, Option.map_some, Entry.freed_of_engaged hengaged,
      hall e (List.mem_of_find?_eq_some hmine) hpoll X hengaged hX]

/-- The cut POLL goes to the head, so that no other POLL of its level is before it (R39). -/
theorem pollLeads_abandonSlot_of_mem {s : State} {X : LineId} {cut : LineId → Bool} {l : Fin 8} {e : Entry}
    (hall : s.CutPollsAre cut l e.job) (hX : cut X = true) (hmem : e ∈ s.queue[l]) (hpoll : e.job.isPoll = true)
    (hengaged : e.engaged = some X) : (s.abandonSlot X).PollLeads l e.job := by
  have hmine : (s.queue[l].find? (Entry.isPollBy X)).isSome = true :=
    List.find?_isSome.mpr ⟨e, hmem, Entry.isPollBy_iff.mpr ⟨hengaged, hpoll⟩⟩
  obtain ⟨x, hx⟩ := Option.isSome_iff_exists.mp hmine
  obtain ⟨hxengaged, hxpoll⟩ := Entry.isPollBy_iff.mp (List.find?_some hx)
  rw [State.PollLeads, abandonSlot_firstPoll, hx, Option.some_or, Option.map_some, Entry.freed_of_engaged hxengaged,
    hall x (List.mem_of_find?_eq_some hx) hxpoll X hxengaged hX]

theorem cutPollsAre_stopLine {s : State} {cut : LineId → Bool} {l : Fin 8} {j : Job} (h : s.CutPollsAre cut l j)
    (X : LineId) : (s.stopLine X).CutPollsAre cut l j := by
  cases honce : s.stopsAtOnce X with
  | true =>
    rw [stopLine_atOnce honce]
    exact (sideEffect_restartCycle s X).cutPollsAre (cutPollsAre_abandonSlot h X)
  | false => exact (sideEffect_stopLine honce).cutPollsAre h

theorem pollLeads_stopLine {s : State} {X : LineId} {cut : LineId → Bool} {l : Fin 8} {j : Job}
    (hall : s.CutPollsAre cut l j) (hX : s.stopsAtOnce X = cut X) (h : s.PollLeads l j) :
    (s.stopLine X).PollLeads l j := by
  cases honce : s.stopsAtOnce X with
  | true =>
    rw [stopLine_atOnce honce]
    exact (sideEffect_restartCycle s X).firstPoll l _ (pollLeads_abandonSlot hall (hX.symm.trans honce) h)
  | false => exact (sideEffect_stopLine honce).firstPoll l _ h

theorem pollLeads_stopLine_of_mem {s : State} {X : LineId} {cut : LineId → Bool} {l : Fin 8} {e : Entry}
    (hall : s.CutPollsAre cut l e.job) (hX : cut X = true) (honce : s.stopsAtOnce X = true) (hmem : e ∈ s.queue[l])
    (hpoll : e.job.isPoll = true) (hengaged : e.engaged = some X) : (s.stopLine X).PollLeads l e.job := by
  rw [stopLine_atOnce honce]
  exact (sideEffect_restartCycle s X).firstPoll l _ (pollLeads_abandonSlot_of_mem hall hX hmem hpoll hengaged)

end Sys2Proof.Machine
end

section
/-! SUPPORT. Both lines stop, one after the other (R160, R161; log 4). Seen from one line, its own stop comes between two
stretches that leave it alone. -/

namespace Sys2Proof.Machine

/-- Line `X` stops and then the other one. -/
def State.bothStopped (s : State) (X : LineId) : State := (s.stopLine X).stopLine (otherLine X)

theorem stopLine_stopsAtOnce_ne (s : State) {X Y : LineId} (h : Y ≠ X) :
    (s.stopLine X).stopsAtOnce Y = s.stopsAtOnce Y :=
  stopsAtOnce_congr (beside_stopLine s X).halt ((beside_stopLine s X).eng Y h)

theorem beside_bothStopped (s : State) (X : LineId) : s.Beside Set.univ (s.bothStopped X) :=
  ((beside_stopLine s X).mono (Set.subset_univ _)).trans ((beside_stopLine _ _).mono (Set.subset_univ _))

/-- The stop of line `Z` within the stop of both. -/
theorem bothStopped_split (s : State) (X Z : LineId) : ∃ u,
    s.Beside {Z}ᶜ u ∧ (u.stopLine Z).Beside {Z}ᶜ (s.bothStopped X) := by
  obtain rfl | rfl := line_cases X Z
  · exact ⟨s, .refl _ s, (beside_stopLine _ _).mono (by simpa using ne_otherLine Z)⟩
  · exact ⟨s.stopLine X, (beside_stopLine s X).mono (by simpa using otherLine_ne X), .refl _ _⟩

/-! ## The lines -/

theorem bothStopped_ctx (s : State) (X Z : LineId) : ((s.bothStopped X).eng Z).ctx = (s.eng Z).ctx := by
  obtain ⟨u, hbefore, hafter⟩ := bothStopped_split s X Z
  rw [(hafter.eng Z (by simp)).eq_with_breakPending]
  refine (stopLine_ctx u Z).trans ?_
  rw [(hbefore.eng Z (by simp)).eq_with_breakPending]

theorem bothStopped_outOfService {s : State} {Z : LineId} (h : s.inService Z = false) (X : LineId) :
    (s.bothStopped X).eng Z = s.eng Z := by
  obtain ⟨u, hbefore, hafter⟩ := bothStopped_split s X Z
  have hu : u.eng Z = s.eng Z := (hbefore.eng Z (by simp)).eq_of_outOfService h
  have hout : u.inService Z = false := by rwa [State.inService, hu]
  rw [stopLine_outOfService hout] at hafter
  exact ((hafter.eng Z (by simp)).eq_of_outOfService hout).trans hu

/-- A halt cycle restart does not read the break-pending flag. -/
theorem Engine.haltRestarted_congr {e f : Engine} (h : e.unbroken = f.unbroken) (X : LineId) (latch : Bool) :
    e.haltRestarted X latch = f.haltRestarted X latch := by
  rw [Engine.eq_of_unbroken_eq h]
  rfl

theorem bothStopped_atOnce {s : State} {Z : LineId} (h : s.stopsAtOnce Z = true) (X : LineId) :
    ((s.bothStopped X).eng Z).unbroken = ((s.eng Z).haltRestarted Z s.halt.latch).unbroken := by
  obtain ⟨u, hbefore, hafter⟩ := bothStopped_split s X Z
  have hu := hbefore.eng Z (by simp)
  rw [(hafter.eng Z (by simp)).unbroken, stopLine_atOnce ((stopsAtOnce_congr hbefore.halt hu).trans h),
    restartCycle_eng_self, Engine.haltRestarted_congr hu.unbroken, hbefore.halt]

theorem bothStopped_runsOut {s : State} {Z : LineId} (hin : s.inService Z = true) (h : s.stopsAtOnce Z = false)
    (X : LineId) :
    ((s.bothStopped X).eng Z).unbroken =
      ({ s.eng Z with restartPending := true, joinRx := none, listening := false } : Engine).unbroken := by
  obtain ⟨u, hbefore, hafter⟩ := bothStopped_split s X Z
  have hu := hbefore.eng Z (by simp)
  have huin : u.inService Z = true := by
    rw [State.inService, hu.eq_with_breakPending]
    exact hin
  rw [(hafter.eng Z (by simp)).unbroken, stopLine_runsOut huin ((stopsAtOnce_congr hbefore.halt hu).trans h), eng_modEng,
    hu.eq_with_breakPending]
  rfl

/-- What a halt cycle restart is, read off its engine (R161). -/
theorem restarted_of_unbroken {s t : State} {X : LineId}
    (h : (t.eng X).unbroken = ((s.eng X).haltRestarted X t.halt.latch).unbroken) : s.Restarted t X := by
  rw [State.Restarted, Engine.eq_of_unbroken_eq h]
  exact ⟨rfl, rfl, rfl, rfl, rfl, rfl, rfl, rfl, rfl, rfl, rfl, rfl, rfl, rfl, rfl, rfl, rfl, rfl⟩

/-! ## The cars -/

theorem bothStopped_car {s : State} {Z : LineId} {i : CarIx} (hZ : (s.car i).home.countingLine = Z) (X : LineId) : ∃ c,
    (s.car i).Carries c ∧
      (if s.stopsAtOnce Z then c.atEndOf Z (s.eng Z).growth else c).Carries ((s.bothStopped X).car i) := by
  obtain ⟨u, hbefore, hafter⟩ := bothStopped_split s X Z
  have hu := hbefore.eng Z (by simp)
  have hcar : (s.car i).Carries (u.car i) := hbefore.car i (by simp [hZ])
  obtain ⟨c, hc, hstop⟩ := stopLine_car u Z i
  rw [stopsAtOnce_congr hbefore.halt hu, hu.growth] at hstop
  have hhome : ((u.stopLine Z).car i).home = (s.car i).home := by
    rw [hstop.home]
    split
    · rw [Car.atEndOf_home, hc.home, hcar.home]
    · rw [hc.home, hcar.home]
  exact ⟨c, hcar.trans hc, hstop.trans (hafter.car i (by simp [hhome, hZ]))⟩

/-! ## The queue -/

/-- An entry after both stops: free when its engine stopped at once (R39). -/
def Entry.halted (s : State) (e : Entry) : Entry := { e with engaged := (e.stopped s).engaged }

theorem halted_eq (s : State) (X : LineId) (e : Entry) :
    e.halted s = (e.haltedBy s X).haltedBy s (otherLine X) := by
  obtain ⟨job, _ | Z⟩ := e
  · simp [Entry.halted, Entry.stopped, Entry.haltedBy, Entry.freed]
  · obtain rfl | rfl := line_cases X Z
    · cases h : s.stopsAtOnce Z <;> simp [Entry.halted, Entry.stopped, Entry.haltedBy, Entry.freed, h, ne_otherLine]
    · cases h : s.stopsAtOnce (otherLine X) <;>
        simp [Entry.halted, Entry.stopped, Entry.haltedBy, Entry.freed, h, otherLine_ne]

theorem bothStopped_holds {s : State} {l : Fin 8} {e : Entry} (X : LineId) (h : s.Holds l e) :
    (s.bothStopped X).Holds l (e.halted s) := by
  have hsecond : ∀ x : Entry, x.haltedBy (s.stopLine X) (otherLine X) = x.haltedBy s (otherLine X) := fun x => by
    rw [Entry.haltedBy, Entry.haltedBy, stopLine_stopsAtOnce_ne s (otherLine_ne X)]
  rw [halted_eq s X, ← hsecond]
  exact stopLine_holds _ (stopLine_holds X h)

theorem forall_entries_bothStopped {s : State} {X : LineId} {Q : Entry → Prop} (hfresh : ∀ e : Entry, e.Fresh → Q e)
    (hfreed : ∀ Y e, Q e → Q (e.freed Y)) (hs : ∀ e ∈ s.entries, Q e) : ∀ e ∈ (s.bothStopped X).entries, Q e :=
  forall_entries_stopLine hfresh (hfreed _) (forall_entries_stopLine hfresh (hfreed X) hs)

theorem engaged_ne_of_mem_bothStopped {s : State} {Z : LineId} (h : s.stopsAtOnce Z = true) (X : LineId) :
    ∀ e ∈ (s.bothStopped X).entries, e.engaged ≠ some Z := by
  obtain rfl | rfl := line_cases X Z
  · exact forall_entries_stopLine (fun e he => engaged_ne_of_fresh he Z) (fun e he hZ => he (Entry.engaged_of_freed hZ))
      (engaged_ne_of_mem_stopLine h)
  · exact engaged_ne_of_mem_stopLine ((stopLine_stopsAtOnce_ne s (otherLine_ne X)).trans h)

/-- The cut POLL leads its level, whichever line stops first (R39). -/
theorem bothStopped_pollLeads {s : State} {Z : LineId} {l : Fin 8} {e : Entry} (hall : s.CutPollsAre s.stopsAtOnce l e.job)
    (hZ : s.stopsAtOnce Z = true) (hmem : e ∈ s.queue[l]) (hpoll : e.job.isPoll = true) (hengaged : e.engaged = some Z)
    (X : LineId) : (s.bothStopped X).PollLeads l e.job := by
  have hother := stopLine_stopsAtOnce_ne s (otherLine_ne X)
  have hall' := cutPollsAre_stopLine hall X
  obtain rfl | rfl := line_cases X Z
  · exact pollLeads_stopLine hall' hother (pollLeads_stopLine_of_mem hall hZ hZ hmem hpoll hengaged)
  · have hkept : e.haltedBy s X = e := by
      unfold Entry.haltedBy
      split
      · exact Entry.freed_of_ne (by simpa [hengaged] using otherLine_ne X)
      · rfl
    have hmem' := mem_of_holds (stopLine_holds X (holds_of_mem hmem)) (isDrive_of_isPoll (by rwa [hkept]))
    rw [hkept] at hmem'
    exact pollLeads_stopLine_of_mem hall' hZ (hother.trans hZ) hmem' hpoll hengaged

end Sys2Proof.Machine
end

section
/-! SUPPORT. The setting of the latch (R158, R161): the notice, the unseating of both text seats (R58), and the stop of both
lines. -/

namespace Sys2Proof.Machine

/-! ## Unseating -/

/-- The entry with its TEXT unseated from engine `X` (R58). -/
def Entry.unseated (X : LineId) (e : Entry) : Entry :=
  { e with
    job := match e.job with
      | .text i x => .text i (if x.seat = some X then { x with next := 0, seat := none } else x)
      | j => j }

@[simp] theorem Entry.unseated_isPoll (X : LineId) (e : Entry) : (e.unseated X).job.isPoll = e.job.isPoll := by
  rcases e with ⟨_ | _ | _ | _, _⟩ <;> rfl

@[simp] theorem Entry.unseated_isDrive (X : LineId) (e : Entry) : (e.unseated X).job.isDrive = e.job.isDrive := by
  rcases e with ⟨_ | _ | _ | _, _⟩ <;> rfl

theorem Entry.unseated_of_isPoll {X : LineId} {e : Entry} (h : e.job.isPoll = true) : e.unseated X = e := by
  obtain ⟨job, engaged⟩ := e
  cases job with
  | poll i => rfl
  | _ => cases h

/-- Once both seats are emptied, a TEXT has none. -/
theorem Entry.unseated_seat (e : Entry) {i : CarIx} {x : Text} (h : ((e.unseated .A).unseated .B).job = .text i x) :
    x.seat = none := by
  rcases e with ⟨_ | _ | ⟨_, _, _, _, _, _, _ | _ | _, _⟩ | _, _⟩ <;> cases h <;> rfl

theorem unseat_queue (s : State) (X : LineId) (l : Fin 8) :
    (s.unseat X fun _ => true).queue[l] = s.queue[l].map (Entry.unseated X) := by
  have hqueue : (s.unseat X fun _ => true).queue = (s.mapEntries (Entry.unseated X)).queue := by
    unfold State.unseat
    dsimp only
    split
    case' isFalse => rw [judgeLine_queue, judge_queue]
    all_goals
      refine congrArg (fun f => (s.mapEntries f).queue) (funext fun e => ?_)
      obtain ⟨job, engaged⟩ := e
      cases job with
      | text i x => by_cases hseat : x.seat = some X <;> simp [Entry.unseated, hseat]
      | _ => rfl
  simp [hqueue, State.mapEntries, State.mapLevels]

theorem beside_unseat (s : State) (X : LineId) (p : CarIx → Bool) : s.Beside ∅ (s.unseat X p) := by
  unfold State.unseat
  dsimp only
  split
  · exact beside_of_eq (mapEntries_halt ..) (mapEntries_cars ..) (mapEntries_link ..) fun _ _ => .inl (mapEntries_eng ..)
  · refine .trans ?_ (sideEffect_judgeLine _ _ X).toBeside
    refine .trans ?_ (sideEffect_judge _ _).toBeside
    exact beside_of_eq (mapEntries_halt ..) (mapEntries_cars ..) (mapEntries_link ..) fun _ _ => .inl (mapEntries_eng ..)

/-! ## Until the lines stop -/

def HaltCause.notice : HaltCause → Notice
  | .pin => .halt true .pin
  | .request => .halt true .request

/-- The part with the latch set by cause `c` and nothing else done (R158). -/
def State.latched (s : State) (c : HaltCause) : State :=
  { s with halt := { s.halt.withCause c with latch := true } }

/-- `w` is `s` with both text seats empty and no line stopped yet. -/
structure State.SeatsEmptied (s w : State) : Prop where
  beside : s.Beside ∅ w
  queue : ∀ l : Fin 8, w.queue[l] = (s.queue[l].map (Entry.unseated .A)).map (Entry.unseated .B)

theorem order_of_lines (s : State) : ∃ X, (s.inSomeOrder [LineId.A, .B]).1 = [X, otherLine X] := by
  obtain h | h := List.perm_pair.mp (inSomeOrder_perm s [LineId.A, .B])
  · exact ⟨.A, h⟩
  · exact ⟨.B, h⟩

/-- The latch becomes set, the notice goes out, the seats are emptied, and both lines stop (R158, R161). -/
theorem setCause_eq_bothStopped {s : State} (h : s.halt.latch = false) (c : HaltCause) : ∃ w X,
    s.setCause c = w.bothStopped X ∧ ((s.latched c).notify c.notice).SeatsEmptied w := by
  let u := (((s.latched c).notify c.notice).unseat .A fun _ => true).unseat .B fun _ => true
  obtain ⟨X, hX⟩ := order_of_lines u
  refine ⟨(u.inSomeOrder [LineId.A, .B]).2, X, ?eq, ?beside, fun l => ?queue⟩
  case eq =>
    have hset : s.setCause c =
        (u.inSomeOrder [LineId.A, .B]).1.foldl (fun s X => s.stopLine X) (u.inSomeOrder [LineId.A, .B]).2 := by
      cases c <;> simp [State.setCause, h] <;> rfl
    rw [hset, hX]
    rfl
  case beside =>
    exact ((beside_unseat ..).trans (beside_unseat ..)).trans (sideEffect_inSomeOrder u _).toBeside
  case queue =>
    rw [inSomeOrder_queue, unseat_queue, unseat_queue]

end Sys2Proof.Machine
end

section
/-! SUPPORT. What the setting of the latch comes to (R160, R161): the clauses for the lines, the queue and the cars, over the
stop of both lines behind the unseating. -/

namespace Sys2Proof.Machine

variable {s w : State}

theorem State.SeatsEmptied.mayBreak (h : s.SeatsEmptied w) (X : LineId) : (s.eng X).MayBreak (w.eng X) :=
  h.beside.eng X (Set.notMem_empty X)

theorem State.SeatsEmptied.stopsAtOnce (h : s.SeatsEmptied w) (X : LineId) : w.stopsAtOnce X = s.stopsAtOnce X :=
  stopsAtOnce_congr h.beside.halt (h.mayBreak X)

theorem State.SeatsEmptied.inService (h : s.SeatsEmptied w) (X : LineId) : w.inService X = s.inService X := by
  rw [State.inService, (h.mayBreak X).eq_with_breakPending, State.inService]

theorem State.SeatsEmptied.halt (h : s.SeatsEmptied w) (X : LineId) : (w.bothStopped X).halt = s.halt :=
  (beside_bothStopped w X).halt.trans h.beside.halt

/-! ## The lines -/

theorem bothStopped_seat (h : s.SeatsEmptied w) (X Z : LineId) : (w.bothStopped X).seat Z = none := by
  have hempty : ∀ e ∈ w.entries, ∀ i x, e.job = .text i x → x.seat = none := by
    intro e he i x hjob
    obtain ⟨l, hl⟩ := mem_entries.mp he
    rw [h.queue, List.map_map] at hl
    obtain ⟨y, -, rfl⟩ := List.mem_map.mp hl
    exact y.unseated_seat hjob
  have hboth := forall_entries_bothStopped (X := X) (fun _ hfresh => hfresh.seat)
    (fun Y e he i x hjob => he i x (by rwa [Entry.freed_job] at hjob)) hempty
  refine List.find?_eq_none.mpr fun p hp => ?_
  obtain ⟨e, he, hpair⟩ := List.mem_filterMap.mp hp
  unfold Entry.textOf at hpair
  split at hpair
  · next i x hjob =>
    cases hpair
    simp [hboth e he i x hjob]
  · cases hpair

theorem bothStopped_restarted (h : s.SeatsEmptied w) {Z : LineId} (honce : s.stopsAtOnce Z = true) (X : LineId) :
    s.Restarted (w.bothStopped X) Z := by
  refine restarted_of_unbroken ?_
  rw [bothStopped_atOnce ((h.stopsAtOnce Z).trans honce), Engine.haltRestarted_congr (h.mayBreak Z).unbroken, h.halt,
    h.beside.halt]

/-- A slot that runs out has its restart pending and listens no more (R160). -/
theorem bothStopped_pending (h : s.SeatsEmptied w) {Z : LineId} (hin : s.inService Z = true)
    (honce : s.stopsAtOnce Z = false) (X : LineId) :
    (w.bothStopped X).eng Z = { s.eng Z with
      restartPending := true, listening := false, joinRx := none
      breakPending := ((w.bothStopped X).eng Z).breakPending } := by
  have hstop := bothStopped_runsOut ((h.inService Z).trans hin) ((h.stopsAtOnce Z).trans honce) X
  rw [(h.mayBreak Z).eq_with_breakPending] at hstop
  exact Engine.eq_of_unbroken_eq hstop

/-! ## The queue -/

theorem stopped_eq (h : s.SeatsEmptied w) (e : Entry) : e.stopped s = ((e.unseated .A).unseated .B).halted w := by
  have hengaged : (e.stopped s).engaged = (e.halted w).engaged := by
    simp only [Entry.stopped, Entry.halted, h.stopsAtOnce]
  have hjob : (e.stopped s).job = ((e.unseated .A).unseated .B).job := by
    rcases e with ⟨_ | _ | ⟨_, _, _, _, _, _, _ | _ | _, _⟩ | _, _⟩ <;> rfl
  exact congrArg₂ Entry.mk hjob hengaged

/-- Every entry stays, a DRIVE perhaps in a more urgent level. -/
theorem bothStopped_stays (h : s.SeatsEmptied w) {l : Fin 8} {e : Entry} (he : e ∈ s.queue[l]) (X : LineId) :
    (w.bothStopped X).Holds l (e.stopped s) := by
  rw [stopped_eq h]
  refine bothStopped_holds X (holds_of_mem ?_)
  rw [h.queue]
  exact List.mem_map_of_mem (List.mem_map_of_mem he)

theorem stopped_isDrive (h : s.SeatsEmptied w) (e : Entry) : (e.stopped s).job.isDrive = e.job.isDrive := by
  rw [stopped_eq h, Entry.halted, Entry.unseated_isDrive, Entry.unseated_isDrive]

/-- The cut POLL is the first of its level, when no other line cut another one there (R39). -/
theorem bothStopped_firstPoll (h : s.SeatsEmptied w) {l : Fin 8} {e : Entry} {Z : LineId} (he : e ∈ s.queue[l])
    (hpoll : e.job.isPoll = true) (hengaged : e.engaged = some Z) (honce : s.stopsAtOnce Z = true)
    (hall : s.CutPollsAre s.stopsAtOnce l e.job) (X : LineId) :
    ((w.bothStopped X).queue[l].find? fun x => x.job.isPoll) = some (e.stopped s) := by
  have hsame : e.stopped s = { job := e.job, engaged := none } := by
    rw [stopped_eq h, Entry.unseated_of_isPoll hpoll, Entry.unseated_of_isPoll hpoll]
    simp [Entry.halted, Entry.stopped, hengaged, h.stopsAtOnce, honce]
  have hcut : w.CutPollsAre w.stopsAtOnce l e.job := by
    intro x hx hxpoll Y hY hYonce
    rw [h.queue, List.map_map] at hx
    obtain ⟨y, hy, rfl⟩ := List.mem_map.mp hx
    have hypoll : y.job.isPoll = true := by simpa using hxpoll
    rw [Function.comp_apply, Entry.unseated_of_isPoll hypoll, Entry.unseated_of_isPoll hypoll] at hY ⊢
    exact hall y hy hypoll Y hY ((h.stopsAtOnce Y).symm.trans hYonce)
  have hmem : e ∈ w.queue[l] := by
    rw [h.queue, List.map_map]
    refine List.mem_map.mpr ⟨e, he, ?_⟩
    rw [Function.comp_apply, Entry.unseated_of_isPoll hpoll, Entry.unseated_of_isPoll hpoll]
  rw [hsame]
  exact bothStopped_pollLeads hcut ((h.stopsAtOnce Z).trans honce) hmem hpoll hengaged X

/-! ## The cars -/

/-- A car is carried to the cycle end of its line, if there is one, and on from there (R112). -/
theorem bothStopped_carried (h : s.SeatsEmptied w) {Z : LineId} {i : CarIx} (hZ : (s.car i).home.countingLine = Z)
    (X : LineId) : ∃ c, (s.car i).Carries c ∧
      (if s.stopsAtOnce Z then c.atEndOf Z (s.eng Z).growth else c).Carries ((w.bothStopped X).car i) := by
  have hcar : (s.car i).Carries (w.car i) := h.beside.car i (Set.notMem_empty _)
  obtain ⟨c, hc, hstop⟩ := bothStopped_car (hcar.home ▸ hZ : (w.car i).home.countingLine = Z) X
  rw [h.stopsAtOnce, (h.mayBreak Z).growth] at hstop
  exact ⟨c, hcar.trans hc, hstop⟩

/-- What neither a cycle end nor a cycle start reaches in a record. -/
theorem bothStopped_car_kept (h : s.SeatsEmptied w) (X : LineId) (i : CarIx) :
    let c := s.car i
    let d := (w.bothStopped X).car i
    d.state = c.state ∧ d.position = c.position ∧ d.home = c.home ∧ d.missCount = c.missCount ∧
      d.confirmedCap = c.confirmedCap ∧ d.release = c.release := by
  obtain ⟨c, hc, hstop⟩ := bothStopped_carried h rfl X (i := i)
  split at hstop
  · rw [Car.atEndOf_eq, hc.eq] at hstop
    dsimp only
    rw [hstop.eq]
    exact ⟨rfl, rfl, rfl, rfl, rfl, rfl⟩
  · dsimp only
    rw [hstop.eq, hc.eq]
    exact ⟨rfl, rfl, rfl, rfl, rfl, rfl⟩

theorem atEndOf_counted {c : Car} {X : LineId} (hpresent : c.present = true) (hX : c.home.countingLine = X) (g : Nat) :
    c.atEndOf X g = c.atCycleEnd g := by
  simp [Car.atEndOf, hpresent, hX]

theorem grown_eq (s : State) (X : LineId) (n : Nat) :
    s.grown X n = min Config.maxUncertainty (n + (s.eng X).growth) := by
  simp only [State.grown, Engine.growth, Plan.slots, Config.maxUncertainty]

/-- The cars that count on a line that stopped at once have had a cycle end (R111, R112). -/
theorem bothStopped_grownAt (h : s.SeatsEmptied w) {Z : LineId} {i : CarIx} (hpresent : (s.car i).present = true)
    (hZ : (s.car i).home.countingLine = Z) (honce : s.stopsAtOnce Z = true) (X : LineId) :
    s.GrownAt (w.bothStopped X) Z i := by
  obtain ⟨c, hc, hstop⟩ := bothStopped_carried h hZ X
  rw [if_pos honce, atEndOf_counted (hc.present.trans hpresent) (hc.home ▸ hZ)] at hstop
  have hmark : c.heardMark = (s.car i).heardMark := by rw [hc.eq]
  have hunc : c.uncertainty = (s.car i).uncertainty := by rw [hc.eq]
  have hspeed : c.speed = (s.car i).speed := by rw [hc.eq]
  have hgrown : ((w.bothStopped X).car i).uncertainty = (c.atCycleEnd (s.eng Z).growth).uncertainty := by rw [hstop.eq]
  refine ⟨by rw [hstop.eq]; rfl, fun hheard => ?heard, fun hheard hmoves => ?unheard⟩
  case heard => rw [hgrown, Car.atCycleEnd, hmark, hheard, Bool.true_or, if_pos rfl, hunc]
  case unheard =>
    have hdozing : c.dozingStationary = false := by
      obtain hmoving | hshallow := hmoves
      · simp [Car.dozingStationary, hspeed, hmoving]
      · simp [Car.dozingStationary, hc.notDeep hshallow]
    rw [hgrown, Car.atCycleEnd, hmark, hheard, hdozing, hunc, Bool.or_false, if_neg Bool.false_ne_true, grown_eq]

theorem bothStopped_unreached (h : s.SeatsEmptied w) {i : CarIx}
    (honce : s.stopsAtOnce (s.car i).home.countingLine = false) (X : LineId) :
    ((w.bothStopped X).car i).heardMark = (s.car i).heardMark ∧
      ((w.bothStopped X).car i).uncertainty = (s.car i).uncertainty := by
  obtain ⟨c, hc, hstop⟩ := bothStopped_carried h rfl X (i := i)
  rw [honce, if_neg Bool.false_ne_true] at hstop
  rw [hstop.eq, hc.eq]
  exact ⟨rfl, rfl⟩

/-! ## The setting -/

theorem linesStopped_bothStopped (h : s.SeatsEmptied w) (X : LineId) : s.LinesStopped (w.bothStopped X) := by
  refine ⟨fun Z => ⟨bothStopped_seat h X Z, ?ctx⟩, fun Z hout => ?outOfService, fun Z honce =>
    ⟨bothStopped_restarted h honce X, engaged_ne_of_mem_bothStopped ((h.stopsAtOnce Z).trans honce) X⟩,
    fun Z hin honce => bothStopped_pending h hin honce X, fun l e he => ⟨fun hdrive => ?stays, fun _ => ?drive,
      fun hpoll ⟨Z, hengaged, honce⟩ hall => bothStopped_firstPoll h he hpoll hengaged honce
        (fun x hx hxpoll Y hY hYonce => hall x hx hxpoll ⟨Y, hY, hYonce⟩) X⟩,
    bothStopped_car_kept h X, fun i hpresent => ⟨fun honce => bothStopped_grownAt h hpresent rfl honce X,
      fun honce => bothStopped_unreached h honce X⟩⟩
  case ctx => rw [bothStopped_ctx, (h.mayBreak Z).eq_with_breakPending]
  case outOfService =>
    rw [bothStopped_outOfService ((h.inService Z).trans hout)]
    exact (h.mayBreak Z).eq_of_outOfService hout
  case stays => exact mem_of_holds (bothStopped_stays h he X) ((stopped_isDrive h e).trans hdrive)
  case drive =>
    obtain ⟨k, hk, -, hmem⟩ := bothStopped_stays h he X
    exact ⟨k, hk, hmem⟩

/-- The latch, its causes and the link are not read. -/
theorem linesStopped_congr {r t : State} (heng : ∀ X, r.eng X = s.eng X) (hmode : r.halt.mode = s.halt.mode)
    (hqueue : r.queue = s.queue) (hcar : ∀ i, r.car i = s.car i) (h : r.LinesStopped t) : s.LinesStopped t := by
  have honce : ∀ X, r.stopsAtOnce X = s.stopsAtOnce X := fun X => by
    rw [State.stopsAtOnce, State.stopsAtOnce, State.inService, State.inService, heng, hmode]
  have hstopped : ∀ e : Entry, e.stopped r = e.stopped s := fun e => by simp only [Entry.stopped, honce]
  simpa only [State.LinesStopped, State.Restarted, State.GrownAt, State.grown, State.inService, heng, hqueue, hcar,
    honce, hstopped] using h

/-- The reply does not touch the lines, the queue and the cars. -/
theorem linesStopped_placeReply {t : State} (h : s.LinesStopped t) (f : Frame) : s.LinesStopped (t.placeReply f) := by
  have hseat : ∀ X, (t.placeReply f).seat X = t.seat X := fun _ => rfl
  simpa only [State.LinesStopped, State.Restarted, State.GrownAt, hseat, placeReply_eng, placeReply_entries,
    placeReply_queue, placeReply_car, placeReply_halt] using h

/-- A cause that sets the latch (R158): the latch, the notice ahead of every other, and the stop of the lines. -/
theorem setCause_latches {s : State} (h : s.halt.latch = false) (c : HaltCause) :
    (s.setCause c).halt = { s.halt.withCause c with latch := true } ∧
      (s.link.notify c.notice).outbox <+: (s.setCause c).link.outbox ∧ s.LinkKept (s.setCause c) ∧
      s.LinesStopped (s.setCause c) ∧ s.SettingsKept (s.setCause c) := by
  obtain ⟨w, X, heq, hw⟩ := setCause_eq_bothStopped h c
  have hbeside := hw.beside.mono (Set.empty_subset _) |>.trans (beside_bothStopped w X)
  rw [← heq] at hbeside
  refine ⟨hbeside.halt, hbeside.outbox, ?link, ?lines, setCause_zones .., setCause_way .., setCause_admission ..,
    setCause_pending ..⟩
  case link => exact linkKept_trans (t := (s.latched c).notify c.notice) (linkKept_notify s c.notice) hbeside.link
  case lines =>
    rw [heq]
    exact linesStopped_congr (fun _ => (notify_eng ..).trans (with_halt_eng ..)) (by cases c <;> rfl) rfl (fun _ => rfl)
      (linesStopped_bothStopped hw X)

end Sys2Proof.Machine
end

section
/-! CERTIFICATES of the family 10_halt_and_resume.md. -/

namespace Sys2Proof.Machine

/-- ALL_STOP STOP with a halt mode that R158 names sets the REQUEST cause and answers DONE. -/
theorem execAllStopStop_eq {s : State} {tag : Nat} {m : Byte} (h : s.Takes 0x15 tag [0#8, m]) (hm : m.toNat ≤ 1) :
    exec .allStopStop s = .next ((s.popFrame.setCause .request).placeReply (replyFrame 0x15 tag .done [])) := by
  obtain ⟨⟨hreply, hframe⟩, htag⟩ := h
  obtain ⟨mode, hmode⟩ : ∃ mode, allStopArgs [0#8, m] = some (false, mode) := by
    have hcases : m = 0#8 ∨ m = 1#8 := by bv_omega
    obtain rfl | rfl := hcases
    · exact ⟨.immediate, rfl⟩
    · exact ⟨.slotBound, rfl⟩
  have htake : s.take (ofAllStop false) (checked (sized 2) actAllStop) =
      (s.popFrame.setCause .request).placeReply (replyFrame 0x15 tag .done []) := by
    simp [State.take, State.oldestRequest, hreply, hframe, ofAllStop, ofKind, checked, sized, htag, actAllStop, hmode]
    rfl
  exact congrArg Host.Outcome.next htake

theorem execEstopAssert_eq {s : State} (h : s.halt.estop = false) :
    exec .estopAssert s = .next (({ s with halt := { s.halt with estop := true } } : State).setCause .pin) := by
  have hassert : estopAssert s = ({ s with halt := { s.halt with estop := true } } : State).setCause .pin :=
    if_neg (by simp [h])
  exact congrArg Host.Outcome.next hassert

/-- Settles O16: either command sets its cause, and the setting of the latch is one event (R158 to R161). -/
theorem estopAndAllStopSetTheLatch : Obligations.EstopAndAllStopSetTheLatch := by
  unfold Obligations.EstopAndAllStopSetTheLatch
  refine ⟨fun tag m s htakes hm hlatch => ?allStop, fun s hlatch hestop => ?estop⟩
  case allStop =>
    obtain ⟨hhalt, houtbox, hlink, hlines, hsettings⟩ := setCause_latches (s := s.popFrame) hlatch .request
    have hnotice : (s.popFrame.link.notify HaltCause.request.notice).outbox =
        (s.link.notify (.halt true .request)).outbox :=
      (congrArg Link.outbox (notify_with_complete s.link s.link.complete.tail (.halt true .request)) :)
    rw [hnotice] at houtbox
    exact ⟨_, execAllStopStop_eq htakes hm, answers_placeReply hlink .., hhalt, houtbox,
      linesStopped_placeReply (linesStopped_congr (popFrame_eng s) rfl rfl (popFrame_car s) hlines) _, hsettings⟩
  case estop =>
    obtain ⟨hhalt, houtbox, hlink, hlines, hsettings⟩ :=
      setCause_latches (s := { s with halt := { s.halt with estop := true } }) hlatch .pin
    exact ⟨_, execEstopAssert_eq hestop, hhalt, houtbox,
      linesStopped_congr (with_halt_eng s _) rfl rfl (fun _ => rfl) hlines, hsettings, hlink⟩

end Sys2Proof.Machine
end

section
/-! SUPPORT. How the receiver works through the characters it holds (R166, R167): while a frame is short of its end it
waits, and a rejected frame that hides no sync byte is skipped whole. -/

namespace Sys2Proof.Machine

/-! ## What the receiver finds at a sync byte -/

theorem isSync_eq_false_iff {c : RxChar} : isSync c = false ↔ (c.stopOk = true → c.byte ≠ 0xA5#8) := by
  simp [isSync]

theorem scanFrame_of_length_lt_three (d : Bool) {p : List RxChar} (h : p.length < 3) : scanFrame d p = .wait := by
  match p, h with
  | [], _ => rfl
  | [_], _ => rfl
  | [_, _], _ => rfl

theorem scanFrame_badLength (d : Bool) (sync l0 l1 : RxChar) (body : List RxChar)
    (h : l0.byte.toNat + 256 * l1.byte.toNat < 2 ∨ 258 < l0.byte.toNat + 256 * l1.byte.toNat) :
    scanFrame d (sync :: l0 :: l1 :: body) = .reject := if_pos h

/-- Short of the end that its length gives, a frame is neither complete nor rejected. -/
theorem scanFrame_of_prefix (d : Bool) {sync l0 l1 : RxChar} {body p : List RxChar}
    (hlen : body.length = l0.byte.toNat + 256 * l1.byte.toNat + 2) (hmin : 4 ≤ body.length) (hmax : body.length ≤ 260)
    (hp : p <+: sync :: l0 :: l1 :: body) (hne : p ≠ sync :: l0 :: l1 :: body) : scanFrame d p = .wait := by
  have hlt : p.length < body.length + 3 := hp.length_le.lt_of_ne (mt hp.eq_of_length hne)
  match p, hp with
  | [], _ | [_], _ | [_, _], _ => exact scanFrame_of_length_lt_three d (by simp)
  | _ :: m0 :: m1 :: short, hp =>
    obtain ⟨-, rfl, rfl, -⟩ : _ ∧ m0 = l0 ∧ m1 = l1 ∧ short <+: body := by simpa using hp
    have hshort : short.length < m0.byte.toNat + 256 * m1.byte.toNat + 2 := by
      simp only [List.length_cons] at hlt
      omega
    exact (if_neg (by omega)).trans (if_pos hshort)

theorem leBytes_two (l0 l1 : Byte) : leBytes 2 (l0.toNat + 256 * l1.toNat) = [l0, l1] := by
  have hlow : BitVec.ofNat 8 (l0.toNat + 256 * l1.toNat) = l0 := by bv_omega
  have hhigh : BitVec.ofNat 8 ((l0.toNat + 256 * l1.toNat) / 256) = l1 := by bv_omega
  simp only [leBytes, hlow, hhigh]

/-- The check of a whole frame, on its bytes as they were received. -/
theorem checkOk_append {l0 l1 : Byte} {bytes : List Byte} (hlen : bytes.length = l0.toNat + 256 * l1.toNat)
    (c0 c1 : Byte) :
    checkOk (l0.toNat + 256 * l1.toNat) (bytes ++ [c0, c1]) =
      decide (c0.toNat + 256 * c1.toNat = (crc16 (l0 :: l1 :: bytes)).toNat) := by
  rw [checkOk, leBytes_two, ← hlen]
  simp [fieldAt, ofLE]

/-- A frame read to its end is rejected for a dropped byte, a framing error or a check that differs (R166, R167). -/
theorem scanFrame_spoiled {d : Bool} {sync l0 l1 c0 c1 : RxChar} {body : List RxChar}
    (hlen : body.length = l0.byte.toNat + 256 * l1.byte.toNat) (hmin : 2 ≤ body.length) (hmax : body.length ≤ 258)
    (hspoiled : d = true ∨ (∃ c ∈ l0 :: l1 :: (body ++ [c0, c1]), c.stopOk = false) ∨
      (crc16 ((l0 :: l1 :: body).map (·.byte))).toNat ≠ c0.byte.toNat + 256 * c1.byte.toNat) :
    scanFrame d (sync :: l0 :: l1 :: (body ++ [c0, c1])) = .reject := by
  have hwhole : (body ++ [c0, c1]).length = l0.byte.toNat + 256 * l1.byte.toNat + 2 := by simp [hlen]
  have hcheck := checkOk_append (bytes := body.map (·.byte)) ((List.length_map _).trans hlen) c0.byte c1.byte
  have hbad : (d || !(l0 :: l1 :: (body ++ [c0, c1])).all (·.stopOk) ||
      !checkOk (l0.byte.toNat + 256 * l1.byte.toNat) ((body ++ [c0, c1]).map (·.byte))) = true := by
    rw [List.map_append, List.map_cons, List.map_cons, List.map_nil, hcheck, Bool.or_eq_true, Bool.or_eq_true]
    obtain hdropped | ⟨c, hc, hstop⟩ | hcrc := hspoiled
    · exact .inl (.inl hdropped)
    · refine .inl (.inr ?_)
      rw [Bool.not_eq_true', List.all_eq_false]
      exact ⟨c, hc, by simp [hstop]⟩
    · exact .inr (by simpa using Ne.symm hcrc)
  rw [scanFrame, if_neg (by omega), if_neg (by omega), List.take_of_length_le hwhole.le, if_pos hbad]

/-! ## Working through the bytes held -/

theorem settle_wait (n : Nat) {k : Link} {sync : RxChar} {rest : List RxChar} (hheld : k.held = sync :: rest)
    (hsync : isSync sync = true) (hwait : scanFrame k.damaged (sync :: rest) = .wait) : k.settle (n + 1) = k := by
  obtain ⟨held, damaged⟩ := k
  subst hheld
  simp [Link.settle, hsync, hwait]

/-- Bytes without a sync byte are skipped. -/
theorem settle_noSync (n : Nat) {k : Link} (h : ∀ c ∈ k.held, isSync c = false) :
    k.settle (n + 1) = { k with held := [], damaged := false } := by
  have hskip : (k.held.dropWhile fun c => !isSync c) = [] := by simpa [List.dropWhile_eq_nil_iff] using h
  simp [Link.settle, hskip, scanFrame]

/-- A rejected frame gives up its sync byte, and the bytes behind it are scanned again (R166). -/
theorem settle_reject (n : Nat) {k : Link} {sync : RxChar} {rest : List RxChar} (hheld : k.held = sync :: rest)
    (hsync : isSync sync = true) (hreject : scanFrame k.damaged (sync :: rest) = .reject)
    (hskip : ∀ c ∈ rest, isSync c = false) :
    k.settle (n + 2) = { k with held := [], damaged := false, rejected := min 255 (k.rejected + 1) } := by
  have hsettle : k.settle (n + 2) =
      Link.settle (n + 1) { k with held := rest, damaged := false, rejected := satAdd1 255 k.rejected } := by
    rw [Link.settle]
    simp [hheld, hsync, hreject]
  rw [hsettle, settle_noSync n hskip]
  rfl

/-! ## Receiving -/

/-- A character that finds the buffer full is dropped, and damages a frame being received (R167). -/
theorem receive_full {k : Link} (h : 512 ≤ k.used) (c : RxChar) :
    k.receive c = { k with damaged := k.damaged || decide (k.held ≠ []) } := by
  rw [Link.receive, if_pos h]
  cases k.held <;> rfl

theorem receive_room {k : Link} (h : k.used < 512) (c : RxChar) :
    k.receive c = Link.settle (k.held.length + 2) { k with held := k.held ++ [c] } := if_neg (Nat.not_le.mpr h)

/-- While hunting, a character that is no sync byte is skipped (R166). -/
theorem receive_hunting {k : Link} (hheld : k.held = []) (hdamaged : k.damaged = false) (hroom : k.used < 512)
    {c : RxChar} (hc : isSync c = false) : k.receive c = k := by
  rw [receive_room hroom, settle_noSync _ (by simpa [hheld] using hc)]
  cases k
  simp_all

theorem used_hold (k : Link) (cs : List RxChar) :
    ({ k with held := k.held ++ cs } : Link).used = k.used + cs.length := by
  simp only [Link.used, List.length_append]
  omega

theorem receive_wait {k : Link} {sync c : RxChar} {rest : List RxChar} (hframe : k.held ++ [c] = sync :: rest)
    (hsync : isSync sync = true) (hroom : k.used < 512) (hwait : scanFrame k.damaged (sync :: rest) = .wait) :
    k.receive c = { k with held := k.held ++ [c] } := by
  rw [receive_room hroom]
  exact settle_wait _ hframe hsync hwait

theorem receive_reject {k : Link} {sync c : RxChar} {rest : List RxChar} (hframe : k.held ++ [c] = sync :: rest)
    (hsync : isSync sync = true) (hroom : k.used < 512) (hreject : scanFrame k.damaged (sync :: rest) = .reject)
    (hskip : ∀ x ∈ rest, isSync x = false) :
    k.receive c = { k with held := [], damaged := false, rejected := min 255 (k.rejected + 1) } := by
  rw [receive_room hroom]
  exact settle_reject _ hframe hsync hreject hskip

/-- The characters of a frame are held as long as each leaves the receiver waiting; `q` is what is still to come. -/
theorem foldl_receive_wait {sync : RxChar} {rest : List RxChar} (hsync : isSync sync = true) (cs q : List RxChar) :
    ∀ k : Link, k.held ++ cs ++ q = sync :: rest → k.used + cs.length ≤ 512 →
      (∀ p, p <+: k.held ++ cs → scanFrame k.damaged p = .wait) →
      cs.foldl Link.receive k = { k with held := k.held ++ cs } := by
  induction cs with
  | nil => intro k _ _ _; simp
  | cons c cs ih =>
    intro k hframe hroom hwait
    have hsplit : k.held ++ c :: cs = (k.held ++ [c]) ++ cs := List.append_cons ..
    rw [hsplit] at hframe hwait ⊢
    rw [List.length_cons] at hroom
    obtain ⟨tail, htail⟩ : ∃ tail, k.held ++ [c] = sync :: tail := by
      obtain hnil | ⟨tail, htail, -⟩ := List.prefix_cons_iff.mp ⟨cs ++ q, (List.append_assoc ..).symm.trans hframe⟩
      · simp at hnil
      · exact ⟨tail, htail⟩
    have hc := receive_wait htail hsync (by omega) (htail ▸ hwait _ (List.prefix_append ..))
    rw [List.foldl_cons, hc]
    exact ih _ hframe (by rw [used_hold, List.length_singleton]; omega) hwait

/-- A frame at whose last character the receiver first finds it bad, and which hides no sync byte, is rejected (R166). -/
theorem foldl_receive_reject {k : Link} {sync : RxChar} {cs rest : List RxChar} (hframe : k.held ++ cs = sync :: rest)
    (hcs : cs ≠ []) (hroom : k.used + cs.length ≤ 512) (hsync : isSync sync = true)
    (hwait : ∀ p, p <+: sync :: rest → p ≠ sync :: rest → scanFrame k.damaged p = .wait)
    (hreject : scanFrame k.damaged (sync :: rest) = .reject) (hskip : ∀ c ∈ rest, isSync c = false) :
    cs.foldl Link.receive k = { k with held := [], damaged := false, rejected := min 255 (k.rejected + 1) } := by
  obtain ⟨before, last, rfl⟩ := List.eq_nil_or_concat' cs |>.resolve_left hcs
  rw [← List.append_assoc] at hframe
  rw [List.length_append, List.length_singleton] at hroom
  have hbefore : before.foldl Link.receive k = { k with held := k.held ++ before } := by
    refine foldl_receive_wait hsync before [last] k hframe (by omega) fun p hp => ?_
    refine hwait p (hp.trans ⟨[last], hframe⟩) fun heq => ?_
    have hlen := (heq ▸ hp).length_le
    rw [← hframe] at hlen
    simp at hlen
  rw [List.foldl_append, hbefore]
  exact receive_reject hframe hsync (by rw [used_hold]; omega) hreject hskip

theorem exec_frameRejected (cs : List RxChar) (s : State) :
    exec (.frameRejected cs) s = .next { s with link := cs.foldl Link.receive s.link } := rfl

theorem exec_frameComplete (cs : List RxChar) (s : State) :
    exec (.frameComplete cs) s = .next { s with link := cs.foldl Link.receive s.link } := rfl

end Sys2Proof.Machine
end

section
/-! CERTIFICATES of the family 11_head_end_link.md. -/

namespace Sys2Proof.Machine

/-- Settles O14: the lengths out of range, the frames read to their end, the full buffer and the hunt. -/
theorem badFramesAreRejected : Obligations.BadFramesAreRejected := by
  unfold Obligations.BadFramesAreRejected
  refine ⟨fun s l0 l1 hheld hdamaged hroom hlen h0 h1 => ?badLength,
    fun s cs l0 l1 c0 c1 body hframe hcs hroom hlen hmin hmax hskip hspoiled => ?spoiled,
    fun s c => ⟨fun hfull => ?full, fun hheld hdamaged hroom hc => ?hunting⟩⟩
  case badLength =>
    have hframe : s.link.held ++ [{ byte := 0xA5#8 }, { byte := l0 }, { byte := l1 }] =
        [{ byte := 0xA5#8 }, { byte := l0 }, { byte := l1 }] := by rw [hheld, List.nil_append]
    rw [exec_frameRejected, foldl_receive_reject hframe (by simp) hroom (by decide)
      (fun _ hp hne => scanFrame_of_length_lt_three _ (hp.length_le.lt_of_ne (mt hp.eq_of_length hne)))
      (scanFrame_badLength _ _ _ _ _ hlen) (by simp [isSync, h0, h1])]
    simp [hheld, hdamaged]
  case spoiled =>
    have hwhole : (body ++ [c0, c1]).length = body.length + 2 := by simp
    rw [exec_frameRejected, foldl_receive_reject hframe hcs hroom (by decide)
      (fun p => scanFrame_of_prefix _ (by omega) (by omega) (by omega)) (scanFrame_spoiled hlen hmin hmax hspoiled)
      fun c hc => isSync_eq_false_iff.mpr (hskip c hc)]
  case full =>
    have hdrop := receive_full hfull c
    rw [exec_frameRejected, exec_frameComplete, List.foldl_cons, List.foldl_nil, hdrop]
    exact ⟨rfl, rfl⟩
  case hunting =>
    have hc : isSync c = false := isSync_eq_false_iff.mpr fun hstop => hc.resolve_left (by simp [hstop])
    rw [exec_frameComplete, List.foldl_cons, List.foldl_nil, receive_hunting hheld hdamaged hroom hc]

/-- Settles O9: the reply's bytes are those of R173, behind the taking of the request. -/
theorem identIdentifies : Obligations.IdentIdentifies := by
  unfold Obligations.IdentIdentifies
  intro tag s htakes
  have hexec : exec .ident s =
      .next ((actIdent [] s.popFrame).1.placeReply
        (replyTo { kind := 0x01, tag := tag, payload := [] } (actIdent [] s.popFrame).2)) :=
    congrArg Host.Outcome.next (take_checked htakes rfl actIdent)
  rw [hexec, replyTo_eq_replyFrame]
  rfl

end Sys2Proof.Machine
end
